-- ==== Sys2Proof/Word.lean ====
section
/-! DEFINITION. The word types of the machine (spec/00_scope.md R7, R10): the data unit is the
byte (u8), an address of the CPU space and the program counter are 16 bits (u16). Bit 0 is the
least significant bit; arithmetic on a `uN` wraps modulo 2^N, which is what `BitVec` addition and
subtraction do. -/

namespace Sys2Proof

/-- A `u8` (R10): the data width of the CPU, of every register but PC, and of every memory cell. -/
abbrev Byte := BitVec 8

/-- A `u16` (R10): the program counter and every CPU address. -/
abbrev Word := BitVec 16

/-- A `u14` video address (R100), as the video bus primitives take it (R13, R106). -/
abbrev VAddr := BitVec 14

end Sys2Proof
end

