-- ==== Sys2Proof/Machine/Bits.lean ====
section
/-! DEFINITION. Bit-field, extension and byte-order helpers (spec/00_scope.md R10; byte order
spec/20_memory.md R110: little-endian everywhere). -/

namespace Sys2Proof.Machine

/-- `hi(w)` = `w[15:8]` (R10). -/
def hi (w : Word) : Byte := w.extractLsb' 8 8

/-- `lo(w)` = `w[7:0]` (R10). -/
def lo (w : Word) : Byte := w.extractLsb' 0 8

/-- `{h, l}`: 16 bits from two bytes, `h` in the high bits (R10, R110). -/
def word (h l : Byte) : Word := h ++ l

/-- `zext_16(b)` (R10). -/
def zext16 (b : Byte) : Word := b.setWidth 16

/-- `sext_16(b)` (R10): `b` if `b < 0x80`, else `b + 0xFF00`. -/
def sext16 (b : Byte) : Word := b.signExtend 16

/-- `v[lo + k - 1 : lo]` as a `k`-bit number (R10). -/
def bits {n : Nat} (v : BitVec n) (lo k : Nat) : BitVec k := v.extractLsb' lo k

/-- `v` with the field of `k` bits that begins at bit `lo` replaced by `x`
(`v[lo + k - 1 : lo] <- x`, R10). -/
def putBits {n k : Nat} (v : BitVec n) (lo : Nat) (x : BitVec k) : BitVec n :=
  (v &&& ~~~((BitVec.allOnes k).setWidth n <<< lo)) ||| (x.setWidth n <<< lo)

/-- The bit `b` at position `i` of a byte, all others 0. -/
def bitAt (b : Bool) (i : Nat) : Byte := (BitVec.ofBool b).setWidth 8 <<< i

/-- `bitrev8` (R488): the order of the 8 bits reversed. -/
def bitrev8 (b : Byte) : Byte :=
  bitAt (b.getLsbD 0) 7 ||| bitAt (b.getLsbD 1) 6 ||| bitAt (b.getLsbD 2) 5 |||
  bitAt (b.getLsbD 3) 4 ||| bitAt (b.getLsbD 4) 3 ||| bitAt (b.getLsbD 5) 2 |||
  bitAt (b.getLsbD 6) 1 ||| bitAt (b.getLsbD 7) 0

end Sys2Proof.Machine
end

