-- ==== Sys2Proof/Config.lean ====
section
/-! DEFINITION. The configuration record: one field for every named parameter of spec/00_scope.md R8,
and the input callbacks of R723. The values of this machine are the record `config` in
Machine/Defaults.lean. A parameter that the spec leaves OPEN is a constant WITHOUT a body here, so that
no proof can see a value of it (assumption log 1, 2, 3, 4). -/

namespace Sys2Proof

/-- How an opcode byte outside `UNDOC_SET` runs (R162): its length in bytes, its cycles, and whether a
page crossing adds one. -/
structure NopForm where
  length : Nat
  cycles : Nat
  pageCross : Bool
deriving DecidableEq, Repr

/-- The parameters of R8; beside each its name there, and the number of the decision in
spec/92_eei_decisions.md that gives its default. -/
structure Config where
  vecNmi : Word                       -- `VEC_NMI` (R93, D3)
  vecReset : Word                     -- `VEC_RESET` (R93, D3)
  vecIrq : Word                       -- `VEC_IRQ`, shared by `IRQ` and `BRK` (R93, D3)
  stackBase : Word                    -- `STACK_BASE` (R24, D4)
  resetA : Byte                       -- `RESET_A` (R21, D15)
  resetX : Byte                       -- `RESET_X` (R22, D15)
  resetY : Byte                       -- `RESET_Y` (R23, D15)
  resetS : Byte                       -- `RESET_S` (R24, D15)
  resetP : Byte                       -- `RESET_P` (R26, D15)
  ramInit : Byte                      -- `RAM_INIT` (D16), every byte of every RAM
  undocSet : List Byte                -- `UNDOC_SET` (R160, D8)
  unassignedForm : List (Byte × NopForm)  -- `UNASSIGNED_FORM` (R162, D9)
  nopOperandRead : Bool               -- `NOP_OPERAND_READ` (R315, D11)
  cycInterrupt : Nat                  -- `CYC_INTERRUPT` (R410, D13)
  cycReset : Nat                      -- `CYC_RESET` (R744, D13)
  dmcStallCycles : Nat                -- `DMC_STALL_CYCLES` (R572, D23)
  oamDmaCycles : Nat → Nat            -- `OAM_DMA_CYCLES` (R712, D22), of the CPU cycle counter
  ctrlBitOfA : Nat                    -- `CTRL_BIT_OF_A` (R714, D21)
  ctrlAfter8 : Byte                   -- `CTRL_AFTER_8` (R715, D21)
  systemPalette : BitVec 6 → Nat      -- `SYSTEM_PALETTE` (R490, R721, D34)
  oddSkipRequiresRendering : Bool     -- `ODD_SKIP_REQUIRES_RENDERING` (R482, D31)
  nmiOnEnableDuringVblank : Bool      -- `NMI_ON_ENABLE_DURING_VBLANK` (R457, D32)
  apuFrameCountsHalfRate : Bool       -- `APU_FRAME_COUNTS_HALF_RATE` (R581, D37)
  apuFinalStepAt : Nat → Nat          -- `APU_FINAL_STEP_AT` (R581, D38), of the period
  cpuFreqHz : Nat                     -- `CPU_FREQ_HZ` (R609, D42)
  sampleRate : Nat × Nat              -- `SAMPLE_RATE_HZ` (R609, D42): (n, d) is (n + 1) / (d + 1)
  mix : BitVec 4 → BitVec 4 → BitVec 4 → BitVec 4 → BitVec 7 → Rat
                                      -- `MIX` (R608, D41), of pulse 1, pulse 2, triangle, noise, delta
  mmc1ResetSetsPrgMode : Bool         -- `MMC1_RESET_SETS_PRG_MODE` (R651, conflict C3, D47)
  prgRamPresent : Bool                -- `PRG_RAM_PRESENT` (R632, D49)
  freeInput : Nat → Nat → Byte        -- `input0`, `input1` (R70, R723): of the player and the strobe count

namespace Config

/-- The numerator of `SAMPLE_RATE_HZ`: never 0. -/
def sampleRateNum (c : Config) : Nat := c.sampleRate.1 + 1

/-- The denominator of `SAMPLE_RATE_HZ`: never 0. -/
def sampleRateDen (c : Config) : Nat := c.sampleRate.2 + 1

/-- `SYSTEM_PALETTE`: OPEN (R8, D34), 64 packed-RGB integers. -/
opaque openPalette : BitVec 6 → Nat

/-- `SAMPLE_RATE_HZ`: OPEN (R8, D42), a positive rational. The pair (n, d) stands for
(n + 1) / (d + 1), so every positive rational is one and none is zero. -/
opaque openSampleRate : Nat × Nat

/-- `input0` and `input1` (R70, R723): the free inputs of the environment. `openInput p k` is the
button mask that player `p`'s callback returns at the `k`-th strobe write, for every strobe the
host has not queued an answer for. -/
opaque openInput : Nat → Nat → Byte

end Config

end Sys2Proof
end

