-- ==== Sys2Proof/Machine/Defaults.lean ====
section
/-! DEFINITION. The configuration of this machine: every parameter of spec/00_scope.md R8 at the
default the spec decides, the OPEN ones at their constants without a body (assumption log 1). -/

namespace Sys2Proof.Machine

/-- `UNDOC_SET` (R160, D8): the 80 bytes, a line a mnemonic. -/
def undocSetDefault : List Byte :=
  [0xA7, 0xB7, 0xAF, 0xBF, 0xA3, 0xB3] ++                              -- LAX
  [0x87, 0x97, 0x8F, 0x83] ++                                          -- SAX
  [0x07, 0x17, 0x0F, 0x1F, 0x1B, 0x03, 0x13] ++                        -- SLO
  [0x27, 0x37, 0x2F, 0x3F, 0x3B, 0x23, 0x33] ++                        -- RLA
  [0x47, 0x57, 0x4F, 0x5F, 0x5B, 0x43, 0x53] ++                        -- SRE
  [0x67, 0x77, 0x6F, 0x7F, 0x7B, 0x63, 0x73] ++                        -- RRA
  [0xC7, 0xD7, 0xCF, 0xDF, 0xDB, 0xC3, 0xD3] ++                        -- DCP
  [0xE7, 0xF7, 0xEF, 0xFF, 0xFB, 0xE3, 0xF3] ++                        -- ISC
  [0xEB] ++                                                            -- USBC
  [0x1A, 0x3A, 0x5A, 0x7A, 0xDA, 0xFA, 0x80, 0x82, 0x89, 0xC2, 0xE2] ++  -- UNOP: IMP, IMM
  [0x04, 0x44, 0x64, 0x14, 0x34, 0x54, 0x74, 0xD4, 0xF4] ++            -- UNOP: ZP, ZPX
  [0x0C, 0x1C, 0x3C, 0x5C, 0x7C, 0xDC, 0xFC]                           -- UNOP: ABS, ABX

/-- Some opcode bytes with one form. -/
def withForm (f : NopForm) (ops : List Byte) : List (Byte × NopForm) := ops.map (fun op => (op, f))

/-- `UNASSIGNED_FORM` (R162, D9): the 25 bytes, a line a format. -/
def unassignedFormDefault : List (Byte × NopForm) :=
  withForm ⟨1, 2, false⟩
    [0x02, 0x12, 0x22, 0x32, 0x42, 0x52, 0x62, 0x72, 0x92, 0xB2, 0xD2, 0xF2] ++  -- IMP
  withForm ⟨2, 2, false⟩ [0x0B, 0x2B, 0x4B, 0x6B, 0x8B, 0xAB, 0xCB] ++           -- IMM
  withForm ⟨2, 5, true⟩ [0x93] ++                                                -- IZY
  withForm ⟨3, 4, true⟩ [0x9F, 0x9E, 0x9B, 0xBB, 0x9C]                           -- ABY, ABX

/-- `PULSE_TABLE` (R608). -/
def pulseTable (i : Nat) : Rat := if i = 0 then 0 else 9552 / 100 / (8128 / i + 100)

/-- `TND_TABLE` (R608). -/
def tndTable (i : Nat) : Rat := if i = 0 then 0 else 16367 / 100 / (24329 / i + 100)

/-- The default of `MIX`, `generateSample()` (R608, D41). -/
def mixDefault (pulse1 pulse2 triangle noise : BitVec 4) (dmc : BitVec 7) : Rat :=
  pulseTable (pulse1.toNat + pulse2.toNat) +
    tndTable (3 * triangle.toNat + 2 * noise.toNat + dmc.toNat)

/-- The configuration (R8). -/
def config : Config where
  vecNmi := 0xFFFA
  vecReset := 0xFFFC
  vecIrq := 0xFFFE
  stackBase := 0x0100
  resetA := 0x00
  resetX := 0x00
  resetY := 0x00
  resetS := 0xFD
  resetP := 0x24
  ramInit := 0x00
  undocSet := undocSetDefault
  unassignedForm := unassignedFormDefault
  nopOperandRead := true
  cycInterrupt := 7
  cycReset := 7
  dmcStallCycles := 4
  oamDmaCycles := fun cyc => 513 + cyc % 2
  ctrlBitOfA := 0
  ctrlAfter8 := 0x01
  systemPalette := Config.openPalette
  oddSkipRequiresRendering := true
  nmiOnEnableDuringVblank := false
  apuFrameCountsHalfRate := true
  apuFinalStepAt := fun period => period - 1
  cpuFreqHz := 1789773
  sampleRate := Config.openSampleRate
  mix := mixDefault
  mmc1ResetSetsPrgMode := false
  prgRamPresent := true
  freeInput := Config.openInput

end Sys2Proof.Machine
end

