-- ==== Sys2Proof/Machine/State.lean ====
section
/-! DEFINITION. The state of the machine (spec/10_state.md), as plain data: the CPU's registers, the
video unit, the audio unit, the cartridge and its mapper, the bus, and the host's side of the
callbacks. INVENTORY.md lists every field with the rule that names it. -/

namespace Sys2Proof.Machine

/-- Byte storage (RAM, ROM, object memory): (offset, byte) pairs, offsets strictly rising, no byte
equal to what an unlisted offset reads as (`Memory.wf` in Machine/Memory.lean). -/
abbrev Memory := List Host.Cell

/-! ### The video unit -/

/-- A sprite slot (R45): the four OAM bytes of the sprite and its two fetched pattern bytes. -/
structure Sprite where
  y : Byte
  tile : Byte
  attr : Byte
  x : Byte
  patLo : Byte
  patHi : Byte
deriving DecidableEq, Repr

/-- The frame buffer being drawn (R46, R721): (index `y * 256 + x`, colour index) of every pixel
drawn since the buffer was fresh, indexes strictly FALLING (the raster draws in rising order, so a
new pixel goes first). An unlisted pixel has not been drawn and holds the fresh buffer's 0. -/
abbrev FrameBuffer := List (Nat × BitVec 6)

/-- The video unit (R35 to R46). -/
structure Ppu where
  ctrl : Byte                    -- R36
  mask : Byte                    -- R37
  vblank : Bool                  -- R38
  spr0Hit : Bool                 -- R38
  sprOverflow : Bool             -- R38
  oamAddr : Byte                 -- R39
  oam : Memory                   -- R39, 256 bytes
  v : BitVec 15                  -- R40
  t : BitVec 15                  -- R40
  fineX : BitVec 3               -- R40
  w : Bool                       -- R40, the write toggle
  readBuf : Byte                 -- R41
  ioLatch : Byte                 -- R41
  pal : Vector (BitVec 6) 32     -- R42
  scanline : Nat                 -- R43, 0..261
  dot : Nat                      -- R43, 0..340
  odd : Bool                     -- R43
  frame : Nat                    -- R43
  ntByte : Byte                  -- R44
  atBits : BitVec 2              -- R44
  ptLo : Byte                    -- R44
  ptHi : Byte                    -- R44
  bgLo : BitVec 16               -- R44
  bgHi : BitVec 16               -- R44
  atLo : BitVec 16               -- R44
  atHi : BitVec 16               -- R44
  slots : Vector Sprite 8        -- R45
  slotCount : Nat                -- R45, 0..8
  slot0IsSpr0 : Bool             -- R45
  fb : FrameBuffer               -- R46
  frameReady : Bool              -- R46
deriving DecidableEq, Repr

/-! ### The audio unit -/

/-- An envelope (R52). `loop` is also the length counter's `halt` (R54, R56). -/
structure Envelope where
  start : Bool
  loop : Bool
  constVol : Bool
  vol : BitVec 4
  div : BitVec 4
  decay : BitVec 4
deriving DecidableEq, Repr

/-- A length counter (R53); its `halt` bit is the envelope's `loop` or the triangle's `linCtrl`. -/
structure LengthCounter where
  len : Byte
  enabled : Bool
deriving DecidableEq, Repr

/-- A pulse channel (R54). -/
structure Pulse where
  env : Envelope
  lc : LengthCounter
  duty : BitVec 2
  seqPos : BitVec 3
  timerPeriod : BitVec 11
  timer : BitVec 11
  swEn : Bool
  swPeriod : BitVec 3
  swNeg : Bool
  swShift : BitVec 3
  swReload : Bool
  swDiv : BitVec 3
deriving DecidableEq, Repr

/-- The triangle channel (R55). -/
structure Triangle where
  lc : LengthCounter
  linCtrl : Bool
  linLoad : BitVec 7
  lin : BitVec 7
  linReload : Bool
  timerPeriod : BitVec 11
  timer : BitVec 11
  seqPos : BitVec 5
deriving DecidableEq, Repr

/-- The noise channel (R56). -/
structure Noise where
  env : Envelope
  lc : LengthCounter
  mode : Bool
  periodIdx : BitVec 4
  timer : BitVec 12
  lfsr : BitVec 15
deriving DecidableEq, Repr

/-- The delta-modulation channel (R57). -/
structure Dmc where
  irqEn : Bool
  loop : Bool
  rateIdx : BitVec 4
  timer : BitVec 9
  level : BitVec 7
  sampleAddr : Word
  sampleLen : BitVec 12
  curAddr : Word
  bytesLeft : BitVec 12
  buf : Byte
  bufFull : Bool
  shift : Byte
  bitsLeft : Nat                 -- 0..8
  silence : Bool
  dmcIrq : Bool
deriving DecidableEq, Repr

/-- The audio unit (R50, R51, R58). `sampleAcc` is the fixed-point accumulator of R58 in units of
1 / (numerator of the sample rate) of a CPU cycle (assumption log 4). -/
structure Apu where
  pulse1 : Pulse
  pulse2 : Pulse
  triangle : Triangle
  noise : Noise
  dmc : Dmc
  fc : Nat                       -- R51
  fcMode : Bool                  -- R51, true = 5-step
  irqInhibit : Bool              -- R51
  frameIrq : Bool                -- R51
  parity : Bool                  -- R51, apu_parity
  sampleAcc : Nat                -- R58
deriving DecidableEq, Repr

/-- The outputs of the five channels at one instant (R608): what the mixer maps to one sample. -/
structure ChannelLevels where
  pulse1 : BitVec 4
  pulse2 : BitVec 4
  triangle : BitVec 4
  noise : BitVec 4
  dmc : BitVec 7
deriving DecidableEq, Repr

/-! ### The cartridge and its mapper -/

/-- The mirroring modes (R60, R638): horizontal, vertical, single-screen lower and upper,
four-screen. -/
inductive Mirroring where
  | H | V | S0 | S1 | F
deriving DecidableEq, Repr

/-- The cartridge (R60). `chr_is_ram` is `chrBanks = 0` (R623) and the mapper identifier is
`Mapper.id`, so neither is stored twice. -/
structure Cartridge where
  prgBanks : Nat
  prgRom : Memory                -- prgBanks * 16384 bytes
  chrBanks : Nat
  chr : Memory                   -- 8192 * max chrBanks 1 bytes
  mirroring : Mirroring
  prgRam : Option Memory         -- absent, or 8192 bytes
  battery : Bool
deriving DecidableEq, Repr

/-- The registers of variant 1, the shift-register mapper (R61, R650). -/
structure Mmc1 where
  sr : BitVec 5
  srCount : Nat                  -- 0..4
  control : BitVec 5
  chr0 : BitVec 5
  chr1 : BitVec 5
  prg : BitVec 5
  mir : Mirroring
deriving DecidableEq, Repr

/-- The five mapper variants with their state (R61, R640). -/
inductive Mapper where
  | fixed                                       -- id 0 (R641)
  | shiftRegister (r : Mmc1)                    -- id 1 (R650)
  | swap16 (prgBank : Byte)                     -- id 2 (R660)
  | chrSelect (chrBank : Byte)                  -- id 3 (R665)
  | swap32 (prgBank : Byte) (oneScreen : Bool) (mir : Mirroring)
                                                -- id 7 (R670), with the current mirroring mode (R61, R673)
deriving DecidableEq, Repr

/-! ### Controllers and the host's side -/

/-- A controller port (R66): the latched button bits and the reads since the last latch. -/
structure Port where
  shift : Byte
  reads : Nat                    -- 0..8
deriving DecidableEq, Repr

/-- The environment's side of the callbacks (R70, R720): answers of `input0`/`input1` the host has
queued, how many strobe writes there were, the frame buffers handed to `frame_sink` and the channel
levels handed to `audio_sink`, newest first, until the host takes them (assumption log 3, 5). -/
structure HostPort where
  inputs : List (Byte × Byte)
  strobes : Nat
  frames : List FrameBuffer
  samples : List ChannelLevels
deriving DecidableEq, Repr

end Sys2Proof.Machine

namespace Sys2Proof.Machine

/-- The whole machine (R20 to R66). -/
structure State where
  a : Byte                       -- R21
  x : Byte                       -- R22
  y : Byte                       -- R23
  sp : Byte                      -- R24, S
  pc : Word                      -- R25
  p : Byte                       -- R26
  cyc : Nat                      -- R29
  nmiPending : Bool              -- R30
  stall : Nat                    -- R30
  ppu : Ppu
  apu : Apu
  cart : Cartridge
  mapper : Mapper
  ram : Memory                   -- R65, 2048 bytes
  vram : Memory                  -- R65, 2048 bytes (4096 when four-screen)
  busLatch : Byte                -- R65
  ctlStrobe : Bool               -- R66
  ctl0 : Port                    -- R66
  ctl1 : Port                    -- R66
  host : HostPort
deriving DecidableEq, Repr

/-- Reasons a step can stop with a fault: NONE. "No instruction can fault" (R401) and every bus
access is total (R95), so the type has no constructor and no state of this machine is stuck (safe:
nothing is left out by it). -/
inductive Fault where
deriving DecidableEq, Repr

/-- Reasons a step can be refused. -/
inductive Refusal where
  /-- Raised by an arm of `exec` whose instruction has no meaning yet, under the mnemonic of the
  opcode table (safe). No arm of this model raises it: every instruction has its meaning. -/
  | notModelled (mnemonic : String)
deriving DecidableEq, Repr

/-- What a meaning answers. -/
abbrev Result := Host.Outcome State Fault Refusal

/-! ### Reset values (R75) -/

/-- A sprite slot after reset (R45). -/
def Sprite.reset : Sprite := ⟨0, 0, 0, 0, 0, 0⟩

/-- The video unit after reset (R36 to R46, R75). -/
def Ppu.reset : Ppu where
  ctrl := 0
  mask := 0
  vblank := false
  spr0Hit := false
  sprOverflow := false
  oamAddr := 0
  oam := []
  v := 0
  t := 0
  fineX := 0
  w := false
  readBuf := 0
  ioLatch := 0
  pal := Vector.replicate 32 (config.ramInit.setWidth 6)
  scanline := 0
  dot := 0
  odd := false
  frame := 0
  ntByte := 0
  atBits := 0
  ptLo := 0
  ptHi := 0
  bgLo := 0
  bgHi := 0
  atLo := 0
  atHi := 0
  slots := Vector.replicate 8 Sprite.reset
  slotCount := 0
  slot0IsSpr0 := false
  fb := []
  frameReady := false

/-- An envelope after reset (R52). -/
def Envelope.reset : Envelope := ⟨false, false, false, 0, 0, 0⟩

/-- A length counter after reset (R53). -/
def LengthCounter.reset : LengthCounter := ⟨0, false⟩

/-- A pulse channel after reset (R54). -/
def Pulse.reset : Pulse where
  env := Envelope.reset
  lc := LengthCounter.reset
  duty := 0
  seqPos := 0
  timerPeriod := 0
  timer := 0
  swEn := false
  swPeriod := 0
  swNeg := false
  swShift := 0
  swReload := false
  swDiv := 0

/-- The triangle channel after reset (R55). -/
def Triangle.reset : Triangle where
  lc := LengthCounter.reset
  linCtrl := false
  linLoad := 0
  lin := 0
  linReload := false
  timerPeriod := 0
  timer := 0
  seqPos := 0

/-- The noise channel after reset (R56): `lfsr` = 1. -/
def Noise.reset : Noise where
  env := Envelope.reset
  lc := LengthCounter.reset
  mode := false
  periodIdx := 0
  timer := 0
  lfsr := 1

/-- The delta channel after reset (R57). -/
def Dmc.reset : Dmc where
  irqEn := false
  loop := false
  rateIdx := 0
  timer := 0
  level := 0
  sampleAddr := 0xC000
  sampleLen := 1
  curAddr := 0
  bytesLeft := 0
  buf := 0
  bufFull := false
  shift := 0
  bitsLeft := 8
  silence := true
  dmcIrq := false

/-- The audio unit after reset (R51 to R58, R75). -/
def Apu.reset : Apu where
  pulse1 := Pulse.reset
  pulse2 := Pulse.reset
  triangle := Triangle.reset
  noise := Noise.reset
  dmc := Dmc.reset
  fc := 0
  fcMode := false
  irqInhibit := false
  frameIrq := false
  parity := false
  sampleAcc := 0

/-- A controller port after reset (R66). -/
def Port.reset : Port := ⟨0, 0⟩

/-- The cartridge of `State.reset`: the shape of the minimal valid image of R625 (mapper 0, 2 PRG
banks, 1 CHR bank, horizontal mirroring, no battery) with NO byte of it listed (assumption log 6).
A program comes from outside, by `hostLoad`. -/
def Cartridge.blank : Cartridge where
  prgBanks := 2
  prgRom := []
  chrBanks := 1
  chr := []
  mirroring := .H
  prgRam := if config.prgRamPresent then some [] else none
  battery := false

/-- No host output delivered, no input queued. -/
def HostPort.empty : HostPort := ⟨[], 0, [], []⟩

/-- The machine right after `reset()` (R75, R740) with the blank cartridge: PC is the reset vector's
word and `bus_latch` its high byte, both 0 since no ROM byte is listed; every other field is the
spec's. -/
def State.reset : State where
  a := config.resetA
  x := config.resetX
  y := config.resetY
  sp := config.resetS
  pc := 0x0000
  p := config.resetP
  cyc := config.cycReset
  nmiPending := false
  stall := 0
  ppu := Ppu.reset
  apu := Apu.reset
  cart := Cartridge.blank
  mapper := .fixed
  ram := []
  vram := []
  busLatch := 0x00
  ctlStrobe := false
  ctl0 := Port.reset
  ctl1 := Port.reset
  host := HostPort.empty

end Sys2Proof.Machine
end

