-- ==== Sys2Proof/Machine/Memory.lean ====
section
/-! DEFINITION. Byte storage: reading and writing one byte, and the canonical form that makes equal
contents equal lists. Every access of the machine is one byte (spec/20_memory.md R110, R112). -/

namespace Sys2Proof.Machine

/-- What an offset that no pair names reads as: `RAM_INIT` (R8, D16). -/
def Memory.blank : Byte := config.ramInit

/-- The byte at an offset. -/
def Memory.get : Memory → Nat → Byte
  | [], _ => Memory.blank
  | (k, v) :: rest, a => if k = a then v else Memory.get rest a

/-- The pairs with `(a, v)` in front, unless `v` is what an unlisted offset reads as. -/
def Memory.cons (a : Nat) (v : Byte) (rest : Memory) : Memory :=
  if v = Memory.blank then rest else (a, v) :: rest

/-- The storage with the byte at `a` replaced by `v`. -/
def Memory.set : Memory → Nat → Byte → Memory
  | [], a, v => Memory.cons a v []
  | (k, w) :: rest, a, v =>
    if k = a then Memory.cons a v rest
    else if a < k then Memory.cons a v ((k, w) :: rest)
    else (k, w) :: Memory.set rest a v

/-- The offsets are strictly rising and at least `low`, and no byte is the blank one. -/
def Memory.wfFrom : Nat → Memory → Bool
  | _, [] => true
  | low, (k, v) :: rest => decide (low ≤ k) && v != Memory.blank && Memory.wfFrom (k + 1) rest

/-- The canonical form. -/
def Memory.wf (m : Memory) : Bool := Memory.wfFrom 0 m

/-- Every listed offset is below `size`. -/
def Memory.within (size : Nat) (m : Memory) : Bool := m.all (fun c => decide (c.1 < size))

/-- The storage whose bytes from offset `a` on are `bs`. -/
def Memory.ofBytesAt : Nat → List Byte → Memory
  | _, [] => []
  | a, b :: bs => Memory.cons a b (Memory.ofBytesAt (a + 1) bs)

/-- The storage holding exactly these bytes from offset 0 (R624). -/
def Memory.ofBytes (bs : List Byte) : Memory := Memory.ofBytesAt 0 bs

end Sys2Proof.Machine
end

