-- ==== Sys2Proof/Machine/Mapper.lean ====
section
/-! DEFINITION. The mapper contract and the five variants (spec/63_mapper_cartridge.md R630 to R683):
pure address translation on reads, register writes on `writePrgRom`. -/

namespace Sys2Proof.Machine

/-- The mapper identifier of a variant (R640). -/
def Mapper.id : Mapper → Nat
  | .fixed => 0
  | .shiftRegister _ => 1
  | .swap16 _ => 2
  | .chrSelect _ => 3
  | .swap32 .. => 7

/-- `prg_size` (R622). -/
def Cartridge.prgSize (c : Cartridge) : Nat := c.prgBanks * 16384

/-- `chr_size` (R622). -/
def Cartridge.chrSize (c : Cartridge) : Nat := 8192 * max c.chrBanks 1

/-- `chr_is_ram` (R623). -/
def Cartridge.chrIsRam (c : Cartridge) : Bool := c.chrBanks == 0

/-- The registers of variant 1 after `reset()`; `mir` is the cartridge's mirroring (R650, R658). -/
def Mmc1.reset (mirroring : Mirroring) : Mmc1 where
  sr := 0
  srCount := 0
  control := 0x0C
  chr0 := 0
  chr1 := 0
  prg := 0
  mir := mirroring

/-- The single-screen mode that `one_screen` of variant 7 stands for (R673). -/
def oneScreenMirroring (oneScreen : Bool) : Mirroring := if oneScreen then .S1 else .S0

/-- `mapper.reset()` (R61, R740). In variant 7 it sets `one_screen` to 0 (R670), and with it the
mirroring mode to `S0` (R673). -/
def Mapper.reset (c : Cartridge) : Mapper → Mapper
  | .fixed => .fixed
  | .shiftRegister _ => .shiftRegister (Mmc1.reset c.mirroring)
  | .swap16 _ => .swap16 0
  | .chrSelect _ => .chrSelect 0
  | .swap32 .. => .swap32 0 false (oneScreenMirroring false)

/-- The mapper constructed for an identifier (R640); `none` for an unsupported one. Its current
mirroring mode starts as the cartridge's (R61); `load` resets the mapper before anything reads it
(R629). DEDUCED (log 19): the start of R61 is the construction. -/
def Mapper.construct (c : Cartridge) : Nat → Option Mapper
  | 0 => some .fixed
  | 1 => some (.shiftRegister (Mmc1.reset c.mirroring))
  | 2 => some (.swap16 0)
  | 3 => some (.chrSelect 0)
  | 7 => some (.swap32 0 false c.mirroring)
  | _ => none

/-! ### Program ROM -/

/-- The 16K bank that variant 1 shows in the window of `a` (R652). -/
def Mmc1.prgBankAt (r : Mmc1) (prgBanks : Nat) (a : Word) : Nat :=
  let b := (bits r.prg 0 4).toNat
  let high := a.getLsbD 14
  match (bits r.control 2 2).toNat with
  | 2 => if high then b else 0
  | 3 => if high then prgBanks - 1 else b
  | _ => b / 2 * 2 + (if high then 1 else 0)

/-- The offset in `prg_rom` of a CPU address 0x8000..0xFFFF (R641, R652, R662, R667, R672). -/
def prgOffset (c : Cartridge) (m : Mapper) (a : Word) : Nat :=
  let o16 := (bits a 0 14).toNat
  let o32 := (bits a 0 15).toNat
  match m with
  | .fixed | .chrSelect _ => o32 % c.prgSize
  | .shiftRegister r => (r.prgBankAt c.prgBanks a * 0x4000 + o16) % c.prgSize
  | .swap16 bank =>
    if a.getLsbD 14 then (c.prgBanks - 1) * 0x4000 + o16
    else (bank.toNat * 0x4000 + o16) % c.prgSize
  | .swap32 bank _ _ => (bank.toNat * 0x8000 + o32) % c.prgSize

/-- `readPrgRom(a)` (R631). -/
def readPrgRom (c : Cartridge) (m : Mapper) (a : Word) : Byte := c.prgRom.get (prgOffset c m a)

/-- `mirror_of` (R654). -/
def mirrorOf (m : BitVec 2) : Mirroring :=
  match m.toNat with
  | 0 => .S0
  | 1 => .S1
  | 2 => .V
  | _ => .H

/-- The fifth serial write of variant 1: the full shift register goes to the register that address
bits 14:13 name (R651). -/
def Mmc1.load (r : Mmc1) (a : Word) (sr : BitVec 5) : Mmc1 :=
  let r := { r with sr := 0, srCount := 0 }
  match (bits a 13 2).toNat with
  | 0 => { r with control := sr, mir := mirrorOf (bits sr 0 2) }
  | 1 => { r with chr0 := sr }
  | 2 => { r with chr1 := sr }
  | _ => { r with prg := sr }

/-- One write to variant 1 (R651). -/
def Mmc1.write (r : Mmc1) (a : Word) (v : Byte) : Mmc1 :=
  if v.getLsbD 7 then
    { r with
      sr := 0, srCount := 0,
      control := if config.mmc1ResetSetsPrgMode then r.control ||| 0x0C else r.control }
  else
    let sr := r.sr ||| ((bits v 0 1).setWidth 5 <<< r.srCount)
    if r.srCount = 4 then r.load a sr else { r with sr := sr, srCount := r.srCount + 1 }

/-- `writePrgRom(a, v)`: the variant's register write (R642, R651, R661, R666, R671). ROM never
changes. -/
def Mapper.writePrgRom (m : Mapper) (a : Word) (v : Byte) : Mapper :=
  match m with
  | .fixed => .fixed
  | .shiftRegister r => .shiftRegister (r.write a v)
  | .swap16 _ => .swap16 v
  | .chrSelect _ => .chrSelect v
  | .swap32 .. => .swap32 (v &&& 0x07) (v.getLsbD 4) (oneScreenMirroring (v.getLsbD 4))

/-! ### Graphics memory and nametables -/

/-- `chr_off(a)` for a pattern-table address 0x0000..0x1FFF (R643, R656, R663, R668, R674). -/
def chrOffset (c : Cartridge) (m : Mapper) (a : VAddr) : Nat :=
  let o := (bits a 0 13).toNat
  match m with
  | .fixed | .swap16 _ | .swap32 .. => o % c.chrSize
  | .shiftRegister r =>
    (if !r.control.getLsbD 4 then r.chr0.toNat / 2 * 2 * 0x1000 + o
      else if o < 0x1000 then r.chr0.toNat * 0x1000 + o
      else r.chr1.toNat * 0x1000 + o % 0x1000) % c.chrSize
  | .chrSelect bank => (bank.toNat * 0x2000 + o) % c.chrSize

/-- `readChrRom(a)` (R636). -/
def readChrRom (c : Cartridge) (m : Mapper) (a : VAddr) : Byte := c.chr.get (chrOffset c m a)

/-- `writeChrRom(a, v)` (R637): stores only in graphics RAM. -/
def writeChrRom (c : Cartridge) (m : Mapper) (a : VAddr) (v : Byte) : Cartridge :=
  if c.chrIsRam then { c with chr := c.chr.set (chrOffset c m a) v } else c

/-- The current mirroring mode `mir` (R61, R638, R644, R654, R663, R669, R673): the cartridge's, but in
variants 1 and 7 the mode the variant holds, which its register writes and `reset()` change. A four-screen cartridge
overrides both. -/
def currentMirroring (c : Cartridge) (m : Mapper) : Mirroring :=
  if c.mirroring = .F then .F
  else match m with
    | .shiftRegister r => r.mir
    | .swap32 _ _ mir => mir
    | .fixed | .swap16 _ | .chrSelect _ => c.mirroring

/-- `phys(n)` (R638): the physical 1K table of logical table `n`. -/
def physTable (mir : Mirroring) (n : BitVec 2) : Nat :=
  match mir with
  | .H => n.toNat / 2
  | .V => n.toNat % 2
  | .S0 => 0
  | .S1 => 1
  | .F => n.toNat

/-- `mapNametableAddress(a)` for 0x2000..0x2FFF (R103, R638): the offset in `vram`. -/
def mapNametableAddress (c : Cartridge) (m : Mapper) (a : VAddr) : Nat :=
  physTable (currentMirroring c m) (bits a 10 2) * 0x400 + (bits a 0 10).toNat

/-! ### Program RAM -/

/-- Variant 1 answers in the RAM window only while bit 4 of its `prg` register is 0 (R632). -/
def Mapper.prgRamEnabled : Mapper → Bool
  | .shiftRegister r => !r.prg.getLsbD 4
  | _ => true

/-- The program RAM that answers, if any (R633, R634). -/
def prgRamAnswering (c : Cartridge) (m : Mapper) : Option Memory :=
  if m.prgRamEnabled then c.prgRam else none

/-- The offset of 0x6000..0x7FFF in program RAM (R91). -/
def prgRamOffset (a : Word) : Nat := (bits a 0 13).toNat

/-- `readPrgRam(a)` (R633); `none` is the sentinel `OpenBus`. -/
def readPrgRam (c : Cartridge) (m : Mapper) (a : Word) : Option Byte :=
  (prgRamAnswering c m).map (fun ram => ram.get (prgRamOffset a))

/-- `writePrgRam(a, v)` (R634). -/
def writePrgRam (c : Cartridge) (m : Mapper) (a : Word) (v : Byte) : Cartridge :=
  match prgRamAnswering c m with
  | some ram => { c with prgRam := some (ram.set (prgRamOffset a) v) }
  | none => c

end Sys2Proof.Machine
end

