-- ==== Sys2Proof/Machine/Apu.lean ====
section
/-! DEFINITION. The audio unit without its bus access (spec/62_audio_unit.md): the shared
primitives, the channels, the frame sequencer, the registers, the mixer and the sample cadence. The
delta channel's memory reader and `clock()`, which need the CPU bus, are in Machine/Devices.lean. -/

namespace Sys2Proof.Machine

/-! ### Tables -/

/-- `LENGTH_TABLE` (R562). -/
def lengthTable : List Byte :=
  [10, 254, 20, 2, 40, 4, 80, 6, 160, 8, 60, 10, 14, 12, 26, 14] ++
  [12, 16, 24, 18, 48, 20, 96, 22, 192, 24, 72, 26, 16, 28, 32, 30]

/-- `DUTY[duty][seq_pos]` (R565). -/
def dutyTable : List (List Bool) :=
  [[false, true, false, false, false, false, false, false],
   [false, true, true, false, false, false, false, false],
   [false, true, true, true, true, false, false, false],
   [true, false, false, true, true, true, true, true]]

/-- `NOISE_PERIOD` (R570). -/
def noisePeriod : List Nat :=
  [4, 8, 16, 32, 64, 96, 128, 160, 202, 254, 380, 508, 762, 1016, 2034, 4068]

/-- `DMC_RATE` (R573). -/
def dmcRate : List Nat :=
  [428, 380, 340, 320, 286, 254, 226, 214, 190, 160, 142, 128, 106, 84, 72, 54]

/-! ### Envelope, length counter (R561, R562) -/

/-- `env_clock` (R561). -/
def Envelope.clock (e : Envelope) : Envelope :=
  if e.start then { e with start := false, decay := 15, div := e.vol }
  else if e.div = 0 then
    { e with
      div := e.vol
      decay := if e.decay ≠ 0 then e.decay - 1 else if e.loop then 15 else e.decay }
  else { e with div := e.div - 1 }

/-- `env_out` (R561). -/
def Envelope.out (e : Envelope) : BitVec 4 := if e.constVol then e.vol else e.decay

/-- The half-frame step of a length counter (R562). -/
def LengthCounter.clock (lc : LengthCounter) (halt : Bool) : LengthCounter :=
  if halt then lc else if lc.len = 0 then lc else { lc with len := lc.len - 1 }

/-- Loading from a register's length index, only while enabled (R536, R540, R543, R562). -/
def LengthCounter.load (lc : LengthCounter) (d : Byte) : LengthCounter :=
  if lc.enabled then { lc with len := lengthTable.getD (bits d 3 5).toNat 0 } else lc

/-- The channel's enable bit of 0x4015 (R548). -/
def LengthCounter.enable (lc : LengthCounter) (on : Bool) : LengthCounter :=
  { enabled := on, len := if on then lc.len else 0 }

/-! ### Pulse channels (R563 to R566) -/

/-- `sweep_target` (R563); `onesComplement` is true of pulse 1. -/
def Pulse.sweepTarget (p : Pulse) (onesComplement : Bool) : Nat :=
  let c := p.timerPeriod.toNat >>> p.swShift.toNat
  if p.swNeg then p.timerPeriod.toNat - c - (if onesComplement then 1 else 0)
  else p.timerPeriod.toNat + c

/-- `sweep_mute` (R563). -/
def Pulse.sweepMute (p : Pulse) (onesComplement : Bool) : Bool :=
  decide (p.timerPeriod.toNat < 8) || decide (0x7FF < p.sweepTarget onesComplement)

/-- The period update of `sweep_clock` (R563). -/
def Pulse.sweepPeriod (p : Pulse) (onesComplement : Bool) : BitVec 11 :=
  if p.swDiv = 0 ∧ p.swEn ∧ p.swShift ≠ 0 ∧ p.sweepMute onesComplement = false then
    BitVec.ofNat 11 (p.sweepTarget onesComplement)
  else p.timerPeriod

/-- `sweep_clock` (R563). -/
def Pulse.sweepClock (p : Pulse) (onesComplement : Bool) : Pulse :=
  let p := { p with timerPeriod := p.sweepPeriod onesComplement }
  if p.swDiv = 0 ∨ p.swReload then { p with swDiv := p.swPeriod, swReload := false }
  else { p with swDiv := p.swDiv - 1 }

/-- The timer of a pulse channel (R560, R565). -/
def Pulse.clockTimer (p : Pulse) : Pulse :=
  if p.timer = 0 then { p with timer := p.timerPeriod, seqPos := p.seqPos + 1 }
  else { p with timer := p.timer - 1 }

/-- Pulse output (R566). -/
def Pulse.out (p : Pulse) (onesComplement : Bool) : BitVec 4 :=
  if p.lc.len = 0 ∨ (dutyTable.getD p.duty.toNat []).getD p.seqPos.toNat false = false ∨
      p.sweepMute onesComplement then 0
  else p.env.out

/-- 0x4000 / 0x4004 (R533). -/
def Pulse.write0 (p : Pulse) (d : Byte) : Pulse :=
  { p with
    duty := bits d 6 2
    env := { p.env with loop := d.getLsbD 5, constVol := d.getLsbD 4, vol := bits d 0 4 } }

/-- 0x4001 / 0x4005 (R534). -/
def Pulse.write1 (p : Pulse) (d : Byte) : Pulse :=
  { p with
    swEn := d.getLsbD 7, swPeriod := bits d 4 3, swNeg := d.getLsbD 3, swShift := bits d 0 3
    swReload := true }

/-- 0x4002 / 0x4006 (R535). -/
def Pulse.write2 (p : Pulse) (d : Byte) : Pulse :=
  { p with timerPeriod := putBits p.timerPeriod 0 d }

/-- 0x4003 / 0x4007 (R536). -/
def Pulse.write3 (p : Pulse) (d : Byte) : Pulse :=
  { p with
    timerPeriod := putBits p.timerPeriod 8 (bits d 0 3)
    lc := p.lc.load d
    seqPos := 0
    env := { p.env with start := true } }

/-! ### Triangle (R568) -/

/-- The linear counter's quarter-frame step (R568). -/
def Triangle.clockLinear (t : Triangle) : Triangle :=
  { t with
    lin := if t.linReload then t.linLoad else if t.lin = 0 then t.lin else t.lin - 1
    linReload := t.linReload && t.linCtrl }

/-- The timer of the triangle (R560, R568). -/
def Triangle.clockTimer (t : Triangle) : Triangle :=
  if t.timer = 0 then
    { t with
      timer := t.timerPeriod
      seqPos := if t.lc.len ≠ 0 ∧ t.lin ≠ 0 then t.seqPos + 1 else t.seqPos }
  else { t with timer := t.timer - 1 }

/-- `TRI[seq_pos]` (R568): 15 down to 0, then 0 up to 15. -/
def Triangle.out (t : Triangle) : BitVec 4 :=
  if t.seqPos.getLsbD 4 then bits t.seqPos 0 4 else ~~~(bits t.seqPos 0 4)

/-- 0x4008 (R537). -/
def Triangle.write8 (t : Triangle) (d : Byte) : Triangle :=
  { t with linCtrl := d.getLsbD 7, linLoad := bits d 0 7 }

/-- 0x400A (R539). -/
def Triangle.writeA (t : Triangle) (d : Byte) : Triangle :=
  { t with timerPeriod := putBits t.timerPeriod 0 d }

/-- 0x400B (R540). -/
def Triangle.writeB (t : Triangle) (d : Byte) : Triangle :=
  { t with
    timerPeriod := putBits t.timerPeriod 8 (bits d 0 3), lc := t.lc.load d, linReload := true }

/-! ### Noise (R570) -/

/-- The next value of the shift register (R570). -/
def Noise.nextLfsr (n : Noise) : BitVec 15 :=
  let fb := n.lfsr.getLsbD 0 ^^ (if n.mode then n.lfsr.getLsbD 6 else n.lfsr.getLsbD 1)
  (n.lfsr >>> 1) ||| ((BitVec.ofBool fb).setWidth 15 <<< 14)

/-- The timer of the noise channel (R560, R570). -/
def Noise.clockTimer (n : Noise) : Noise :=
  if n.timer = 0 then
    { n with
      timer := BitVec.ofNat 12 (noisePeriod.getD n.periodIdx.toNat 0 - 1), lfsr := n.nextLfsr }
  else { n with timer := n.timer - 1 }

/-- Noise output (R570). -/
def Noise.out (n : Noise) : BitVec 4 :=
  if n.lfsr.getLsbD 0 ∨ n.lc.len = 0 then 0 else n.env.out

/-- 0x400C (R541). -/
def Noise.writeC (n : Noise) (d : Byte) : Noise :=
  { n with env := { n.env with loop := d.getLsbD 5, constVol := d.getLsbD 4, vol := bits d 0 4 } }

/-- 0x400E (R542). -/
def Noise.writeE (n : Noise) (d : Byte) : Noise :=
  { n with mode := d.getLsbD 7, periodIdx := bits d 0 4 }

/-- 0x400F (R543). -/
def Noise.writeF (n : Noise) (d : Byte) : Noise :=
  { n with lc := n.lc.load d, env := { n.env with start := true } }

/-! ### Delta channel (R544 to R548, R573) -/

/-- The level after one output bit (R573): a step that would leave 0..127 is skipped. -/
def Dmc.nextLevel (d : Dmc) : BitVec 7 :=
  if d.silence then d.level
  else if d.shift.getLsbD 0 then (if d.level.toNat ≤ 125 then d.level + 2 else d.level)
  else if 2 ≤ d.level.toNat then d.level - 2 else d.level

/-- `dmc_output_clock()` (R573). -/
def Dmc.outputClock (d : Dmc) : Dmc :=
  let d := { d with level := d.nextLevel, shift := d.shift >>> 1, bitsLeft := d.bitsLeft - 1 }
  if d.bitsLeft = 0 then
    if d.bufFull then
      { d with bitsLeft := 8, silence := false, shift := d.buf, bufFull := false }
    else { d with bitsLeft := 8, silence := true }
  else d

/-- The rate divider of the delta channel (R560, R573). -/
def Dmc.clockTimer (d : Dmc) : Dmc :=
  if d.timer = 0 then
    { d with timer := BitVec.ofNat 9 (dmcRate.getD d.rateIdx.toNat 0 - 1) }.outputClock
  else { d with timer := d.timer - 1 }

/-- The state of the reader after the byte `b` has been fetched (R572). -/
def Dmc.fetched (d : Dmc) (b : Byte) : Dmc :=
  let cur := if d.curAddr = 0xFFFF then 0x8000 else d.curAddr + 1
  let left := d.bytesLeft - 1
  let d := { d with buf := b, bufFull := true, curAddr := cur, bytesLeft := left }
  if left = 0 then
    if d.loop then { d with curAddr := d.sampleAddr, bytesLeft := d.sampleLen }
    else { d with dmcIrq := d.dmcIrq || d.irqEn }
  else d

/-- The reader fetches a byte at this clock (R572). -/
def Dmc.wantsByte (d : Dmc) : Bool := !d.bufFull && d.bytesLeft != 0

/-- 0x4010 (R544). -/
def Dmc.write10 (m : Dmc) (d : Byte) : Dmc :=
  { m with
    irqEn := d.getLsbD 7, loop := d.getLsbD 6, rateIdx := bits d 0 4
    dmcIrq := m.dmcIrq && d.getLsbD 7 }

/-- 0x4011 (R545). -/
def Dmc.write11 (m : Dmc) (d : Byte) : Dmc := { m with level := bits d 0 7 }

/-- 0x4012 (R546). -/
def Dmc.write12 (m : Dmc) (d : Byte) : Dmc := { m with sampleAddr := 0xC000 + (zext16 d <<< 6) }

/-- 0x4013 (R547). -/
def Dmc.write13 (m : Dmc) (d : Byte) : Dmc := { m with sampleLen := (d.setWidth 12 <<< 4) + 1 }

/-- Bit 4 of a write to 0x4015 (R548); `dmc_irq` is cleared in every case. -/
def Dmc.enable (m : Dmc) (on : Bool) : Dmc :=
  if on then
    if m.bytesLeft = 0 then
      { m with curAddr := m.sampleAddr, bytesLeft := m.sampleLen, dmcIrq := false }
    else { m with dmcIrq := false }
  else { m with bytesLeft := 0, dmcIrq := false }

/-! ### Frame sequencer (R580 to R584) -/

/-- `quarter()` (R582). -/
def Apu.quarter (u : Apu) : Apu :=
  { u with
    pulse1 := { u.pulse1 with env := u.pulse1.env.clock }
    pulse2 := { u.pulse2 with env := u.pulse2.env.clock }
    noise := { u.noise with env := u.noise.env.clock }
    triangle := u.triangle.clockLinear }

/-- `half()` (R583): length counters, then sweeps. -/
def Apu.half (u : Apu) : Apu :=
  { u with
    pulse1 := { u.pulse1 with lc := u.pulse1.lc.clock u.pulse1.env.loop }.sweepClock true
    pulse2 := { u.pulse2 with lc := u.pulse2.lc.clock u.pulse2.env.loop }.sweepClock false
    triangle := { u.triangle with lc := u.triangle.lc.clock u.triangle.linCtrl }
    noise := { u.noise with lc := u.noise.lc.clock u.noise.env.loop } }

/-- The sequencer's period (R580). -/
def Apu.period (u : Apu) : Nat := if u.fcMode then 18641 else 14915

/-- `frame_step()` (R581). -/
def Apu.frameStep (u : Apu) : Apu :=
  let u : Apu := { u with fc := u.fc + 1 }
  let u : Apu := if u.fc = 3728 ∨ u.fc = 11185 then u.quarter else u
  let u : Apu := if u.fc = 7456 then u.quarter.half else u
  let u : Apu :=
    if u.fc = config.apuFinalStepAt u.period then
      let w := u.quarter.half
      { w with frameIrq := w.frameIrq || (!w.fcMode && !w.irqInhibit) }
    else u
  if u.fc = u.period then { u with fc := 0 } else u

/-- `irq_line` (R611). -/
def Apu.irqLine (u : Apu) : Bool := u.frameIrq || u.dmc.dmcIrq

/-! ### Registers (R532 to R556) -/

/-- The value `ApuStatusRead()` returns (R555). -/
def Apu.status (u : Apu) : Byte :=
  bitAt (u.pulse1.lc.len != 0) 0 ||| bitAt (u.pulse2.lc.len != 0) 1 |||
  bitAt (u.triangle.lc.len != 0) 2 ||| bitAt (u.noise.lc.len != 0) 3 |||
  bitAt (u.dmc.bytesLeft != 0) 4 ||| bitAt u.frameIrq 6 ||| bitAt u.dmc.dmcIrq 7

/-- 0x4015 written (R548). -/
def Apu.writeEnable (u : Apu) (d : Byte) : Apu :=
  { u with
    pulse1 := { u.pulse1 with lc := u.pulse1.lc.enable (d.getLsbD 0) }
    pulse2 := { u.pulse2 with lc := u.pulse2.lc.enable (d.getLsbD 1) }
    triangle := { u.triangle with lc := u.triangle.lc.enable (d.getLsbD 2) }
    noise := { u.noise with lc := u.noise.lc.enable (d.getLsbD 3) }
    dmc := u.dmc.enable (d.getLsbD 4) }

/-- 0x4017 written (R556). -/
def Apu.writeFrame (u : Apu) (d : Byte) : Apu :=
  let u :=
    { u with
      fcMode := d.getLsbD 7, irqInhibit := d.getLsbD 6, fc := 0
      frameIrq := u.frameIrq && !d.getLsbD 6 }
  if u.fcMode then u.quarter.half else u

/-- `ApuRegWrite(a, d)` (R532, R549), `n` being `a - 0x4000`. -/
def apuRegWrite (n : Nat) (d : Byte) (u : Apu) : Apu :=
  match n with
  | 0x00 => { u with pulse1 := u.pulse1.write0 d }
  | 0x01 => { u with pulse1 := u.pulse1.write1 d }
  | 0x02 => { u with pulse1 := u.pulse1.write2 d }
  | 0x03 => { u with pulse1 := u.pulse1.write3 d }
  | 0x04 => { u with pulse2 := u.pulse2.write0 d }
  | 0x05 => { u with pulse2 := u.pulse2.write1 d }
  | 0x06 => { u with pulse2 := u.pulse2.write2 d }
  | 0x07 => { u with pulse2 := u.pulse2.write3 d }
  | 0x08 => { u with triangle := u.triangle.write8 d }
  | 0x0A => { u with triangle := u.triangle.writeA d }
  | 0x0B => { u with triangle := u.triangle.writeB d }
  | 0x0C => { u with noise := u.noise.writeC d }
  | 0x0E => { u with noise := u.noise.writeE d }
  | 0x0F => { u with noise := u.noise.writeF d }
  | 0x10 => { u with dmc := u.dmc.write10 d }
  | 0x11 => { u with dmc := u.dmc.write11 d }
  | 0x12 => { u with dmc := u.dmc.write12 d }
  | 0x13 => { u with dmc := u.dmc.write13 d }
  | 0x15 => u.writeEnable d
  | 0x17 => u.writeFrame d
  | _ => u

/-! ### Mixer and sample stream (R608, R609) -/

/-- The outputs of the five channels (R566, R568, R570, R573). -/
def Apu.levels (u : Apu) : ChannelLevels where
  pulse1 := u.pulse1.out true
  pulse2 := u.pulse2.out false
  triangle := u.triangle.out
  noise := u.noise.out
  dmc := u.dmc.level

/-- `generateSample()` (R608): the sample a sink entry stands for, by `MIX`. -/
def ChannelLevels.sample (l : ChannelLevels) : Rat :=
  config.mix l.pulse1 l.pulse2 l.triangle l.noise l.dmc

/-- A sample is due at this clock (R609): with rate n / d, `sample_acc + 1 >= F * d / n`, both
sides times n. -/
def Apu.sampleDue (u : Apu) : Bool :=
  decide (config.cpuFreqHz * config.sampleRateDen ≤ u.sampleAcc + config.sampleRateNum)

/-- `sample_acc` after this clock (R609). -/
def Apu.nextSampleAcc (u : Apu) : Nat :=
  if u.sampleDue then
    u.sampleAcc + config.sampleRateNum - config.cpuFreqHz * config.sampleRateDen
  else u.sampleAcc + config.sampleRateNum

/-- `sample_step()` (R609). -/
def sampleStep (s : State) : State :=
  { s with
    apu := { s.apu with sampleAcc := s.apu.nextSampleAcc }
    host := { s.host with
      samples :=
        if s.apu.sampleDue then s.apu.levels :: s.host.samples else s.host.samples } }

/-- The part of `clock()` before the delta channel's reader (R600): parity, frame sequencer, pulse,
triangle and noise timers. -/
def Apu.clockFront (u : Apu) : Apu :=
  let u := { u with parity := !u.parity }
  let halfTick := !u.parity
  let u := if halfTick || !config.apuFrameCountsHalfRate then u.frameStep else u
  let u :=
    if halfTick then { u with pulse1 := u.pulse1.clockTimer, pulse2 := u.pulse2.clockTimer } else u
  { u with triangle := u.triangle.clockTimer, noise := u.noise.clockTimer }

end Sys2Proof.Machine
end

