-- ==== Sys2Proof/Machine/Ppu.lean ====
section
/-! DEFINITION. The video unit: its bus, its eight registers, and one `tick()` of the raster
(spec/20_memory.md R100 to R106, spec/61_video_unit.md). -/

namespace Sys2Proof.Machine

/-! ### The video bus -/

/-- `pidx` on the low five bits of a palette address (R105, R472). -/
def paletteIndex (i : BitVec 5) : BitVec 5 :=
  if i = 0x10 ∨ i = 0x14 ∨ i = 0x18 ∨ i = 0x1C then i - 0x10 else i

/-- The palette entry `pal[pidx(i)]` (R105). -/
def palGet (pal : Vector (BitVec 6) 32) (i : BitVec 5) : BitVec 6 :=
  pal.get (paletteIndex i).toFin

/-- The palette with entry `pidx(i)` replaced (R105, R106). -/
def palSet (pal : Vector (BitVec 6) 32) (i : BitVec 5) (c : BitVec 6) : Vector (BitVec 6) 32 :=
  pal.set (paletteIndex i).toNat c (paletteIndex i).isLt

/-- The `vram` offset of a nametable address, 0x3000..0x3EFF being the mirror of 0x2000..0x2EFF
(R103, R104). -/
def nametableOffset (s : State) (a : VAddr) : Nat :=
  mapNametableAddress s.cart s.mapper (0x2000 ||| (a &&& 0x0FFF))

/-- `PpuRd(a)` (R106): no side effect. -/
def ppuRd (a : VAddr) (s : State) : Byte :=
  if a.toNat ≤ 0x1FFF then readChrRom s.cart s.mapper a
  else if a.toNat ≤ 0x3EFF then s.vram.get (nametableOffset s a)
  else (palGet s.ppu.pal (bits a 0 5)).setWidth 8

/-- `PpuWr(a, v)` (R106). -/
def ppuWr (a : VAddr) (v : Byte) (s : State) : State :=
  if a.toNat ≤ 0x1FFF then { s with cart := writeChrRom s.cart s.mapper a v }
  else if a.toNat ≤ 0x3EFF then { s with vram := s.vram.set (nametableOffset s a) v }
  else { s with ppu := { s.ppu with pal := palSet s.ppu.pal (bits a 0 5) (bits v 0 6) } }

/-! ### The registers -/

/-- `rendering` (R37). -/
def Ppu.rendering (p : Ppu) : Bool := p.mask.getLsbD 3 || p.mask.getLsbD 4

/-- `inc` (R469): 32 if `ctrl.inc32`, else 1. -/
def Ppu.increment (p : Ppu) : BitVec 15 := if p.ctrl.getLsbD 2 then 32 else 1

/-- `v` as a video address (R465). -/
def Ppu.vaddr (p : Ppu) : VAddr := bits p.v 0 14

/-- The value of the status register (R460). -/
def Ppu.status (p : Ppu) : Byte :=
  bitAt p.vblank 7 ||| bitAt p.spr0Hit 6 ||| bitAt p.sprOverflow 5 ||| (p.ioLatch &&& 0x1F)

/-- The byte the OAM data register reads (R463). -/
def Ppu.oamData (p : Ppu) : Byte :=
  let b := p.oam.get p.oamAddr.toNat
  if bits p.oamAddr 0 2 = 2 then b &&& 0xE3 else b

/-- The value a read of the data register returns (R468). -/
def dataReadValue (s : State) : Byte :=
  if s.ppu.vaddr.toNat < 0x3F00 then s.ppu.readBuf else ppuRd s.ppu.vaddr s

/-- What a read of the data register leaves in `read_buf` (R468). -/
def dataReadBuffer (s : State) : Byte :=
  if s.ppu.vaddr.toNat < 0x3F00 then ppuRd s.ppu.vaddr s else ppuRd (s.ppu.vaddr - 0x1000) s

/-- The value `PpuRegRead(n)` returns (R455). -/
def ppuRegValue (n : BitVec 3) (s : State) : Byte :=
  match n.toNat with
  | 2 => s.ppu.status
  | 4 => s.ppu.oamData
  | 7 => dataReadValue s
  | _ => s.ppu.ioLatch

/-- What `PpuRegRead(n)` changes (R455, R460, R463, R468). -/
def ppuRegReadEffect (n : BitVec 3) (s : State) : State :=
  let r := ppuRegValue n s
  match n.toNat with
  | 2 => { s with ppu := { s.ppu with vblank := false, w := false, ioLatch := r } }
  | 4 => { s with ppu := { s.ppu with ioLatch := r } }
  | 7 =>
    { s with
      ppu := { s.ppu with
        readBuf := dataReadBuffer s, v := s.ppu.v + s.ppu.increment, ioLatch := r } }
  | _ => s

/-- Control register written (R457). With `NMI_ON_ENABLE_DURING_VBLANK` the rising `nmi_en` during
vertical blank sets `nmi_pending`. -/
def writeCtrl (d : Byte) (s : State) : State :=
  { s with
    nmiPending :=
      s.nmiPending ||
        (config.nmiOnEnableDuringVblank && s.ppu.vblank && d.getLsbD 7 && !s.ppu.ctrl.getLsbD 7)
    ppu := { s.ppu with ctrl := d, t := putBits s.ppu.t 10 (bits d 0 2) } }

/-- Scroll register written (R464). -/
def Ppu.writeScroll (p : Ppu) (d : Byte) : Ppu :=
  if !p.w then { p with t := putBits p.t 0 (bits d 3 5), fineX := bits d 0 3, w := true }
  else { p with t := putBits (putBits p.t 12 (bits d 0 3)) 5 (bits d 3 5), w := false }

/-- Address register written (R466). -/
def Ppu.writeAddr (p : Ppu) (d : Byte) : Ppu :=
  if !p.w then { p with t := putBits (putBits p.t 8 (bits d 0 6)) 14 (0 : BitVec 1), w := true }
  else
    let t := putBits p.t 0 d
    { p with t := t, v := t, w := false }

/-- Data register written (R467). -/
def writeData (d : Byte) (s : State) : State :=
  let s' := ppuWr s.ppu.vaddr d s
  { s' with ppu := { s'.ppu with v := s.ppu.v + s.ppu.increment } }

/-- One byte into object memory at `oam_addr`, which moves on (R462, R710). -/
def Ppu.oamPut (p : Ppu) (d : Byte) : Ppu :=
  { p with oam := p.oam.set p.oamAddr.toNat d, oamAddr := p.oamAddr + 1 }

/-- `PpuRegWrite(n, d)` (R456). -/
def ppuRegWrite (n : BitVec 3) (d : Byte) (s : State) : State :=
  let s := { s with ppu := { s.ppu with ioLatch := d } }
  match n.toNat with
  | 0 => writeCtrl d s
  | 1 => { s with ppu := { s.ppu with mask := d } }
  | 3 => { s with ppu := { s.ppu with oamAddr := d } }
  | 4 => { s with ppu := s.ppu.oamPut d }
  | 5 => { s with ppu := s.ppu.writeScroll d }
  | 6 => { s with ppu := s.ppu.writeAddr d }
  | 7 => writeData d s
  | _ => s

/-! ### Scroll movements (R484) -/

/-- `inc_x()`. -/
def incX (v : BitVec 15) : BitVec 15 :=
  if bits v 0 5 = 31 then putBits (putBits v 0 (0 : BitVec 5)) 10 (~~~bits v 10 1)
  else putBits v 0 (bits v 0 5 + 1)

/-- `inc_y()`. -/
def incY (v : BitVec 15) : BitVec 15 :=
  if bits v 12 3 ≠ 7 then putBits v 12 (bits v 12 3 + 1)
  else
    let v := putBits v 12 (0 : BitVec 3)
    if bits v 5 5 = 29 then putBits (putBits v 5 (0 : BitVec 5)) 11 (~~~bits v 11 1)
    else if bits v 5 5 = 31 then putBits v 5 (0 : BitVec 5)
    else putBits v 5 (bits v 5 5 + 1)

/-- `copy_x()`. -/
def copyX (v t : BitVec 15) : BitVec 15 := putBits (putBits v 0 (bits t 0 5)) 10 (bits t 10 1)

/-- `copy_y()`. -/
def copyY (v t : BitVec 15) : BitVec 15 :=
  putBits (putBits (putBits v 5 (bits t 5 5)) 11 (bits t 11 1)) 12 (bits t 12 3)

/-! ### Background pipeline (R483, R485) -/

/-- `shift()`. -/
def Ppu.shiftBg (p : Ppu) : Ppu :=
  { p with bgLo := p.bgLo <<< 1, bgHi := p.bgHi <<< 1, atLo := p.atLo <<< 1, atHi := p.atHi <<< 1 }

/-- `load()`. -/
def Ppu.loadBg (p : Ppu) : Ppu :=
  { p with
    bgLo := putBits p.bgLo 0 p.ptLo
    bgHi := putBits p.bgHi 0 p.ptHi
    atLo := putBits p.atLo 0 (if p.atBits.getLsbD 0 then 0xFF else 0x00 : Byte)
    atHi := putBits p.atHi 0 (if p.atBits.getLsbD 1 then 0xFF else 0x00 : Byte) }

/-- The nametable address of the tile at `v` (R483). -/
def Ppu.ntAddr (p : Ppu) : VAddr := 0x2000 ||| (p.vaddr &&& 0x0FFF)

/-- The attribute address of the tile at `v` (R483). -/
def Ppu.atAddr (p : Ppu) : VAddr :=
  0x23C0 ||| (p.vaddr &&& 0x0C00) ||| ((p.vaddr >>> 4) &&& 0x38) ||| ((p.vaddr >>> 2) &&& 0x07)

/-- The shift that brings the tile's attribute bits down (R483). -/
def Ppu.atShift (p : Ppu) : Nat := ((p.vaddr >>> 4 &&& 4) ||| (p.vaddr &&& 2)).toNat

/-- The address of the low pattern byte of the fetched tile (R483). -/
def Ppu.ptAddr (p : Ppu) : VAddr :=
  ((bits p.ctrl 4 1).setWidth 14 <<< 12) ||| (p.ntByte.setWidth 14 <<< 4) |||
    (bits p.v 12 3).setWidth 14

/-- `bg_step(d)` (R483): shift, then the fetch of this dot's phase. -/
def bgStep (d : Nat) (s : State) : State :=
  let p := s.ppu.shiftBg
  let p := match (d - 1) % 8 with
    | 0 => { p with ntByte := ppuRd p.ntAddr s }
    | 2 => { p with atBits := bits (ppuRd p.atAddr s >>> p.atShift) 0 2 }
    | 4 => { p with ptLo := ppuRd p.ptAddr s }
    | 6 => { p with ptHi := ppuRd (p.ptAddr ||| 8) s }
    | 7 => { p.loadBg with v := incX p.v }
    | _ => p
  { s with ppu := p }

/-! ### Sprites (R487, R488) -/

/-- The sprite height `h` (R487). -/
def Ppu.spriteHeight (p : Ppu) : Nat := if p.ctrl.getLsbD 5 then 16 else 8

/-- The pattern address of row `row` of a sprite (R488), after the vertical flip. -/
def Ppu.spriteAddr (p : Ppu) (tile attr : Byte) (row : Nat) : VAddr :=
  let row := if attr.getLsbD 7 then p.spriteHeight - 1 - row else row
  if !p.ctrl.getLsbD 5 then
    ((bits p.ctrl 3 1).setWidth 14 <<< 12) ||| (tile.setWidth 14 <<< 4) ||| BitVec.ofNat 14 row
  else
    ((bits tile 0 1).setWidth 14 <<< 12) |||
      (((tile &&& 0xFE) + (if 8 ≤ row then 1 else 0)).setWidth 14 <<< 4) |||
      BitVec.ofNat 14 (row % 8)

/-- `fetch_sprite` (R488): the slot of sprite `n` of object memory for its row `row`. -/
def fetchSprite (s : State) (n row : Nat) : Sprite :=
  let oam := s.ppu.oam
  let tile := oam.get (4 * n + 1)
  let attr := oam.get (4 * n + 2)
  let addr := s.ppu.spriteAddr tile attr row
  let lo := ppuRd addr s
  let hi := ppuRd (addr + 8) s
  { y := oam.get (4 * n), tile := tile, attr := attr, x := oam.get (4 * n + 3)
    patLo := if attr.getLsbD 6 then bitrev8 lo else lo
    patHi := if attr.getLsbD 6 then bitrev8 hi else hi }

/-- Sprite `n` covers the scanline after `line` (R487): `0 <= line - y < h`. -/
def Ppu.spriteInRange (p : Ppu) (line n : Nat) : Bool :=
  let y := (p.oam.get (4 * n)).toNat
  decide (y ≤ line) && decide (line - y < p.spriteHeight)

/-- The evaluation loop (R487) over the sprites from `n` on, `fuel` of them. Object memory, control
register and video memory are those of `s`; the slots are filled in `p`. -/
def evalSprites (s : State) (line : Nat) : Nat → Nat → Ppu → Ppu
  | 0, _, p => p
  | fuel + 1, n, p =>
    if s.ppu.spriteInRange line n then
      if p.slotCount < 8 then
        evalSprites s line fuel (n + 1)
          { p with
            slots := p.slots.setIfInBounds p.slotCount
              (fetchSprite s n (line - (s.ppu.oam.get (4 * n)).toNat))
            slotCount := p.slotCount + 1
            slot0IsSpr0 := p.slot0IsSpr0 || n == 0 }
      else { p with sprOverflow := true }
    else evalSprites s line fuel (n + 1) p

/-- `sprite_step(s)` (R487). -/
def spriteStep (line : Nat) (s : State) : State :=
  let p := { s.ppu with slotCount := 0, slot0IsSpr0 := false }
  { s with ppu := if line = 261 then p else evalSprites s line 64 0 p }

/-! ### Pixels (R486, R489, R490) -/

/-- `bg_pixel(x)` (R486): pixel value and palette. -/
def Ppu.bgPixel (p : Ppu) (x : Nat) : BitVec 2 × BitVec 2 :=
  if p.mask.getLsbD 3 && (decide (8 ≤ x) || p.mask.getLsbD 1) then
    let b := 15 - p.fineX.toNat
    (BitVec.ofBool (p.bgHi.getLsbD b) ++ BitVec.ofBool (p.bgLo.getLsbD b),
     BitVec.ofBool (p.atHi.getLsbD b) ++ BitVec.ofBool (p.atLo.getLsbD b))
  else (0, 0)

/-- A sprite pixel (R489): value, palette 4..7, behind the background, sprite number 0. -/
structure SpritePixel where
  px : BitVec 2
  pal : BitVec 3
  behind : Bool
  is0 : Bool
deriving DecidableEq, Repr

/-- No sprite pixel (R489). -/
def SpritePixel.none : SpritePixel := ⟨0, 0, false, false⟩

/-- The 2-bit pixel of a slot at column `x` (R489); 0 outside its eight columns. -/
def Sprite.pixelAt (sp : Sprite) (x : Nat) : BitVec 2 :=
  if sp.x.toNat ≤ x ∧ x - sp.x.toNat ≤ 7 then
    let b := 7 - (x - sp.x.toNat)
    BitVec.ofBool (sp.patHi.getLsbD b) ++ BitVec.ofBool (sp.patLo.getLsbD b)
  else 0

/-- The first slot with a non-transparent pixel at `x` (R489); `is0` says whether the head of the
list is sprite number 0. -/
def scanSlots (x : Nat) (is0 : Bool) : List Sprite → SpritePixel
  | [] => SpritePixel.none
  | sp :: rest =>
    if sp.pixelAt x ≠ 0 then ⟨sp.pixelAt x, 1#1 ++ bits sp.attr 0 2, sp.attr.getLsbD 5, is0⟩
    else scanSlots x false rest

/-- `spr_pixel(x)` (R489). -/
def Ppu.sprPixel (p : Ppu) (x : Nat) : SpritePixel :=
  if p.mask.getLsbD 4 && (decide (8 ≤ x) || p.mask.getLsbD 2) then
    scanSlots x p.slot0IsSpr0 (p.slots.toList.take p.slotCount)
  else SpritePixel.none

/-- The palette entry and the sprite-zero hit of the composited pixel at column `x` (R490). -/
def Ppu.composite (p : Ppu) (x : Nat) : BitVec 5 × Bool :=
  let bg := if p.rendering then p.bgPixel x else (0, 0)
  let sp := if p.rendering then p.sprPixel x else SpritePixel.none
  let bgEntry : BitVec 5 := (bg.2 ++ bg.1).setWidth 5
  let spEntry : BitVec 5 := sp.pal ++ sp.px
  if bg.1 = 0 then (if sp.px = 0 then 0 else spEntry, false)
  else if sp.px = 0 then (bgEntry, false)
  else (if sp.behind then bgEntry else spEntry, sp.is0 && x != 255)

/-- The frame buffer with pixel `i` drawn in colour `c`. -/
def FrameBuffer.put : FrameBuffer → Nat → BitVec 6 → FrameBuffer
  | [], i, c => [(i, c)]
  | (j, d) :: rest, i, c =>
    if j < i then (i, c) :: (j, d) :: rest
    else if j = i then (i, c) :: rest
    else (j, d) :: FrameBuffer.put rest i c

/-- The colour index of pixel `i`, if it has been drawn. -/
def FrameBuffer.colour : FrameBuffer → Nat → Option (BitVec 6)
  | [], _ => none
  | (j, d) :: rest, i => if j = i then some d else FrameBuffer.colour rest i

/-- The packed RGB integer of pixel `i` (R490, R721): `SYSTEM_PALETTE[c]`, or the fresh buffer's 0. -/
def FrameBuffer.rgb (fb : FrameBuffer) (i : Nat) : Nat :=
  match fb.colour i with
  | some c => config.systemPalette c
  | none => 0

/-- The 61440 entries `frame_sink` receives, in raster order (R721). -/
def FrameBuffer.entries (fb : FrameBuffer) : List Nat := (List.range 61440).map fb.rgb

/-- `emit_pixel(x, y)` (R490, R491). -/
def Ppu.emitPixel (p : Ppu) (x y : Nat) : Ppu :=
  let e := p.composite x
  let c := palGet p.pal e.1
  let c := if p.mask.getLsbD 0 then c &&& 0x30 else c
  { p with fb := p.fb.put (y * 256 + x) c, spr0Hit := p.spr0Hit || e.2 }

/-! ### One tick (R481) -/

/-- The end of vertical blank at (261, 1) (R493). -/
def Ppu.clearFlags (p : Ppu) : Ppu :=
  if p.scanline = 261 ∧ p.dot = 1 then
    { p with vblank := false, spr0Hit := false, sprOverflow := false }
  else p

/-- The pixel of this dot, on visible positions (R481). -/
def Ppu.emitStep (p : Ppu) : Ppu :=
  if p.scanline ≤ 239 ∧ 1 ≤ p.dot ∧ p.dot ≤ 256 then p.emitPixel (p.dot - 1) p.scanline else p

/-- `render_line` (R481). -/
def Ppu.renderLine (p : Ppu) : Bool := decide (p.scanline ≤ 239) || p.scanline == 261

/-- Background step of this dot (R481). -/
def bgPhase (s : State) : State :=
  let d := s.ppu.dot
  if (1 ≤ d ∧ d ≤ 256) ∨ (321 ≤ d ∧ d ≤ 336) then bgStep d s else s

/-- The `inc_y` of dot 256 (R481, R484). -/
def Ppu.incYPhase (p : Ppu) : Ppu := if p.dot = 256 then { p with v := incY p.v } else p

/-- The `copy_x` and the sprite evaluation of dot 257 (R481, R484, R487). -/
def spritePhase (s : State) : State :=
  if s.ppu.dot = 257 then
    spriteStep s.ppu.scanline { s with ppu := { s.ppu with v := copyX s.ppu.v s.ppu.t } }
  else s

/-- The `copy_y` of dots 280..304 of the pre-render scanline (R481, R484). -/
def Ppu.copyYPhase (p : Ppu) : Ppu :=
  if p.scanline = 261 ∧ 280 ≤ p.dot ∧ p.dot ≤ 304 then { p with v := copyY p.v p.t } else p

/-- What a render line does when `rendering` (R481). -/
def renderPhase (s : State) : State :=
  if s.ppu.rendering && s.ppu.renderLine then
    let s := bgPhase s
    let s := { s with ppu := s.ppu.incYPhase }
    let s := spritePhase s
    { s with ppu := s.ppu.copyYPhase }
  else s

/-- `start_vblank()` (R492): the flag, the interrupt if enabled, and the flip. -/
def startVblank (s : State) : State :=
  { s with
    nmiPending := s.nmiPending || s.ppu.ctrl.getLsbD 7
    host := { s.host with frames := s.ppu.fb :: s.host.frames }
    ppu := { s.ppu with vblank := true, frame := s.ppu.frame + 1, fb := [], frameReady := true } }

/-- The start of vertical blank at (241, 1) (R481). -/
def vblankPhase (s : State) : State :=
  if s.ppu.scanline = 241 ∧ s.ppu.dot = 1 then startVblank s else s

/-- `advance()` with the odd-frame skip (R482). -/
def Ppu.advance (p : Ppu) : Ppu :=
  if p.scanline = 261 ∧ p.dot = 339 ∧ p.odd ∧
      (p.rendering ∨ config.oddSkipRequiresRendering = false) then
    { p with scanline := 0, dot := 0, odd := false }
  else if p.dot < 340 then { p with dot := p.dot + 1 }
  else if p.scanline < 261 then { p with dot := 0, scanline := p.scanline + 1 }
  else { p with dot := 0, scanline := 0, odd := !p.odd }

/-- `tick()` (R481): act on the current position, then advance. -/
def tick (s : State) : State :=
  let s := { s with ppu := s.ppu.clearFlags.emitStep }
  let s := vblankPhase (renderPhase s)
  { s with ppu := s.ppu.advance }

end Sys2Proof.Machine
end

