-- ==== Sys2Proof/Machine/Bus.lean ====
section
/-! DEFINITION. The CPU bus (spec/20_memory.md R80 to R119, spec/64_orchestrator.md R710 to R716): the
decoding of every CPU address into one destination, the read callback `Rd`, the write callback
`Wr`, the OAM copy and the controller ports. -/

namespace Sys2Proof.Machine

/-! ### Address decoding (R81, R84, R85) -/

/-- Where a CPU read goes (R84). -/
inductive ReadDest where
  | ram (offset : Nat)           -- R82
  | ppuReg (n : BitVec 3)        -- R83
  | apuStatus                    -- R86, 0x4015
  | port0                        -- R88, 0x4016
  | port1                        -- R88, 0x4017
  | open                         -- R86, R89, R90: `bus_latch`
  | prgRam                       -- R91
  | prgRom                       -- R92
deriving DecidableEq, Repr

/-- Where a CPU write goes (R85). -/
inductive WriteDest where
  | ram (offset : Nat)           -- R82
  | ppuReg (n : BitVec 3)        -- R83
  | oamDma                       -- R87, 0x4014
  | strobe                       -- R88, 0x4016
  | apuReg (n : Nat)             -- R86, 0x4000 + n
  | nowhere                      -- R89, R90
  | prgRam                       -- R91
  | prgRom                       -- R92
deriving DecidableEq, Repr

/-- The offset of a work-RAM address, `a & 0x07FF` (R82). -/
def ramOffset (a : Word) : Nat := (bits a 0 11).toNat

/-- The decoder of `Rd` (R84). -/
def readDest (a : Word) : ReadDest :=
  if a.toNat ≤ 0x1FFF then .ram (ramOffset a)
  else if a.toNat ≤ 0x3FFF then .ppuReg (bits a 0 3)
  else if a.toNat = 0x4015 then .apuStatus
  else if a.toNat = 0x4016 then .port0
  else if a.toNat = 0x4017 then .port1
  else if a.toNat ≤ 0x5FFF then .open
  else if a.toNat ≤ 0x7FFF then .prgRam
  else .prgRom

/-- The decoder of `Wr` (R85). -/
def writeDest (a : Word) : WriteDest :=
  if a.toNat ≤ 0x1FFF then .ram (ramOffset a)
  else if a.toNat ≤ 0x3FFF then .ppuReg (bits a 0 3)
  else if a.toNat = 0x4014 then .oamDma
  else if a.toNat = 0x4016 then .strobe
  else if a.toNat ≤ 0x4017 then .apuReg (a.toNat - 0x4000)
  else if a.toNat ≤ 0x5FFF then .nowhere
  else if a.toNat ≤ 0x7FFF then .prgRam
  else .prgRom

/-! ### Controller ports (R714, R715) -/

/-- The value of a port read (R715). -/
def Port.value (p : Port) (strobe : Bool) : Byte :=
  if strobe then p.shift &&& 1
  else if p.reads < 8 then p.shift &&& 1
  else config.ctrlAfter8

/-- The port after a read (R715): no shift while the strobe is high or after eight reads. -/
def Port.next (p : Port) (strobe : Bool) : Port :=
  if strobe then p
  else if p.reads < 8 then { shift := p.shift >>> 1, reads := p.reads + 1 }
  else p

/-- The two masks the input callbacks answer at the next strobe write (R714, R723): the host's
queued answer, else the environment's free inputs. -/
def HostPort.masks (h : HostPort) : Byte × Byte :=
  match h.inputs with
  | m :: _ => m
  | [] => (config.freeInput 0 h.strobes, config.freeInput 1 h.strobes)

/-- The button bits of a mask as a port shifts them out, A first (R714): `CTRL_BIT_OF_A` names the
mask bit of A, the next bits upward (after bit 7 bit 0) are B, Select, Start, Up, Down, Left, Right. -/
def buttons (mask : Byte) : Byte := mask.rotateRight config.ctrlBitOfA

/-- `CtlStrobe(v)` (R714). -/
def ctlStrobeWrite (v : Byte) (s : State) : State :=
  { s with
    ctlStrobe := v.getLsbD 0
    ctl0 := ⟨buttons s.host.masks.1, 0⟩
    ctl1 := ⟨buttons s.host.masks.2, 0⟩
    host := { s.host with inputs := s.host.inputs.tail, strobes := s.host.strobes + 1 } }

/-! ### The read callback (R84) -/

/-- The value `Rd(a)` returns. -/
def peek (a : Word) (s : State) : Byte :=
  match readDest a with
  | .ram o => s.ram.get o
  | .ppuReg n => ppuRegValue n s
  | .apuStatus => s.apu.status
  | .port0 => s.ctl0.value s.ctlStrobe
  | .port1 => s.ctl1.value s.ctlStrobe
  | .open => s.busLatch
  | .prgRam => (readPrgRam s.cart s.mapper a).getD s.busLatch
  | .prgRom => readPrgRom s.cart s.mapper a

/-- What `Rd(a)` changes in the device it reads (R113). -/
def readEffect (a : Word) (s : State) : State :=
  match readDest a with
  | .ppuReg n => ppuRegReadEffect n s
  | .apuStatus => { s with apu := { s.apu with frameIrq := false } }
  | .port0 => { s with ctl0 := s.ctl0.next s.ctlStrobe }
  | .port1 => { s with ctl1 := s.ctl1.next s.ctlStrobe }
  | .ram _ | .open | .prgRam | .prgRom => s

/-- The state after `Rd(a)`: the device's side effect, and the value in `bus_latch` (R94). -/
def afterRd (a : Word) (s : State) : State := { readEffect a s with busLatch := peek a s }

/-! ### The OAM copy (R710 to R712) -/

/-- The last `n` of the copy's 256 byte moves (R710): the source address is `page * 256 + 256 - n`. -/
def oamCopy (page : Byte) : Nat → State → State
  | 0, s => s
  | n + 1, s =>
    let a := word page (BitVec.ofNat 8 (255 - n))
    let t := afterRd a s
    oamCopy page n { t with ppu := t.ppu.oamPut (peek a s) }

/-- `OamDma(d)` (R710): the copy, then `OAM_DMA_CYCLES` (R712). -/
def oamDma (d : Byte) (s : State) : State :=
  let t := oamCopy d 256 s
  { t with stall := t.stall + config.oamDmaCycles s.cyc }

/-! ### The write callback (R85) -/

/-- `Wr(a, v)`: `bus_latch` does not change by it (D20). -/
def wr (a : Word) (v : Byte) (s : State) : State :=
  match writeDest a with
  | .ram o => { s with ram := s.ram.set o v }
  | .ppuReg n => ppuRegWrite n v s
  | .oamDma => oamDma v s
  | .strobe => ctlStrobeWrite v s
  | .apuReg n => { s with apu := apuRegWrite n v s.apu }
  | .nowhere => s
  | .prgRam => { s with cart := writePrgRam s.cart s.mapper a v }
  | .prgRom => { s with mapper := s.mapper.writePrgRom a v }

end Sys2Proof.Machine
end

