-- ==== Sys2Proof/Machine/Devices.lean ====
section
/-! DEFINITION. The catch-up of the devices (spec/64_orchestrator.md R700): the audio unit's `clock()`
with the delta channel's fetch through the CPU bus (spec/62_audio_unit.md R572, R600), and the passes
of three video ticks and one audio clock per CPU cycle. -/

namespace Sys2Proof.Machine

/-- `dmc_reader()` (R572): one byte through `Rd`, four CPU cycles owed. -/
def dmcReader (s : State) : State :=
  if s.apu.dmc.wantsByte then
    let a := s.apu.dmc.curAddr
    let b := peek a s
    let t := afterRd a { s with stall := s.stall + config.dmcStallCycles }
    { t with apu := { t.apu with dmc := t.apu.dmc.fetched b } }
  else s

/-- `clock()` (R600). -/
def clock (s : State) : State :=
  let s := dmcReader { s with apu := s.apu.clockFront }
  sampleStep { s with apu := { s.apu with dmc := s.apu.dmc.clockTimer } }

/-- One pass of the catch-up (R700): three video ticks, then one audio clock (D24). -/
def devicePass (s : State) : State := clock (tick (tick (tick s)))

/-- `n` passes of the catch-up. -/
def runDevices : Nat → State → State
  | 0, s => s
  | n + 1, s => runDevices n (devicePass s)

/-- The end of an iteration (R700, R702): the stall that has collected joins the cycles the CPU
part took since `before`, and the devices advance by the sum. -/
def catchUp (before : Nat) (s : State) : State :=
  runDevices (s.cyc - before + s.stall) { s with cyc := s.cyc + s.stall, stall := 0 }

end Sys2Proof.Machine
end

