-- ==== Sys2Proof/Syntax.lean ====
section
/-! DEFINITION. The instructions (spec/30_encoding.md R130 to R164): one constructor for each of the
256 rows of spec/opcode_table.json. An operand field is one byte, or
`abs16 = {hi8, lo8}` in the three-byte formats (R132). The rows of `UNOP` and `UNA` that share a
format differ in nothing but the opcode byte (R175); their constructors carry that byte in their
names. -/

namespace Sys2Proof

/-- The mnemonics of the opcode table: 56 documented (R155), the undocumented ones (R160), among
them `UNOP` (R315), and `UNA`, the unassigned bytes (R316). -/
inductive Mnemonic where
  | ADC | AND | ASL | BCC | BCS | BEQ | BIT | BMI | BNE | BPL | BRK | BVC
  | BVS | CLC | CLD | CLI | CLV | CMP | CPX | CPY | DCP | DEC | DEX | DEY
  | EOR | INC | INX | INY | ISC | JMP | JSR | LAX | LDA | LDX | LDY | LSR
  | NOP | ORA | PHA | PHP | PLA | PLP | RLA | ROL | ROR | RRA | RTI | RTS
  | SAX | SBC | SEC | SED | SEI | SLO | SRE | STA | STX | STY | TAX | TAY
  | TSX | TXA | TXS | TYA | UNA | UNOP | USBC
deriving DecidableEq, Repr

/-- The thirteen formats (R132) with their operand fields. -/
inductive Operand where
  | imp                 -- implicit (R140)
  | acc                 -- accumulator (R141)
  | imm (imm : Byte)    -- immediate (R142)
  | zp  (zp : Byte)     -- zero page (R143)
  | zpx (zp : Byte)     -- zero page indexed by X (R144)
  | zpy (zp : Byte)     -- zero page indexed by Y (R145)
  | abs (abs : Word)    -- absolute (R146)
  | abx (abs : Word)    -- absolute indexed by X (R147)
  | aby (abs : Word)    -- absolute indexed by Y (R148)
  | ind (abs : Word)    -- indirect (R149)
  | izx (zp : Byte)     -- indexed-indirect (R150)
  | izy (zp : Byte)     -- indirect-indexed (R151)
  | rel (rel : Byte)    -- relative (R152)
deriving DecidableEq, Repr

/-- The length in bytes of an instruction of this format, opcode included (R132, R134). -/
def Operand.length : Operand → Nat
  | .imp | .acc => 1
  | .imm _ | .zp _ | .zpx _ | .zpy _ | .izx _ | .izy _ | .rel _ => 2
  | .abs _ | .abx _ | .aby _ | .ind _ => 3

/-- The instructions, one constructor a row of spec/opcode_table.json: first the rows with operand
bytes, then the one-byte rows, each in the table's order. -/
inductive Instr where
  | oraIzx (zp : Byte)  -- 01 ORA IZX (R226)
  | sloIzx (zp : Byte)  -- 03 SLO IZX (R310)
  | unopZp04 (zp : Byte)  -- 04 UNOP ZP (R315)
  | oraZp (zp : Byte)  -- 05 ORA ZP (R226)
  | aslZp (zp : Byte)  -- 06 ASL ZP (R251)
  | sloZp (zp : Byte)  -- 07 SLO ZP (R310)
  | oraImm (imm : Byte)  -- 09 ORA IMM (R226)
  | unaImm0B (imm : Byte)  -- 0B UNA IMM (R316)
  | unopAbs0C (abs : Word)  -- 0C UNOP ABS (R315)
  | oraAbs (abs : Word)  -- 0D ORA ABS (R226)
  | aslAbs (abs : Word)  -- 0E ASL ABS (R251)
  | sloAbs (abs : Word)  -- 0F SLO ABS (R310)
  | bpl (rel : Byte)  -- 10 BPL REL (R273)
  | oraIzy (zp : Byte)  -- 11 ORA IZY (R226)
  | sloIzy (zp : Byte)  -- 13 SLO IZY (R310)
  | unopZpx14 (zp : Byte)  -- 14 UNOP ZPX (R315)
  | oraZpx (zp : Byte)  -- 15 ORA ZPX (R226)
  | aslZpx (zp : Byte)  -- 16 ASL ZPX (R251)
  | sloZpx (zp : Byte)  -- 17 SLO ZPX (R310)
  | oraAby (abs : Word)  -- 19 ORA ABY (R226)
  | sloAby (abs : Word)  -- 1B SLO ABY (R310)
  | unopAbx1C (abs : Word)  -- 1C UNOP ABX (R315)
  | oraAbx (abs : Word)  -- 1D ORA ABX (R226)
  | aslAbx (abs : Word)  -- 1E ASL ABX (R251)
  | sloAbx (abs : Word)  -- 1F SLO ABX (R310)
  | jsrAbs (abs : Word)  -- 20 JSR ABS (R263)
  | andIzx (zp : Byte)  -- 21 AND IZX (R225)
  | rlaIzx (zp : Byte)  -- 23 RLA IZX (R311)
  | bitZp (zp : Byte)  -- 24 BIT ZP (R231)
  | andZp (zp : Byte)  -- 25 AND ZP (R225)
  | rolZp (zp : Byte)  -- 26 ROL ZP (R253)
  | rlaZp (zp : Byte)  -- 27 RLA ZP (R311)
  | andImm (imm : Byte)  -- 29 AND IMM (R225)
  | unaImm2B (imm : Byte)  -- 2B UNA IMM (R316)
  | bitAbs (abs : Word)  -- 2C BIT ABS (R231)
  | andAbs (abs : Word)  -- 2D AND ABS (R225)
  | rolAbs (abs : Word)  -- 2E ROL ABS (R253)
  | rlaAbs (abs : Word)  -- 2F RLA ABS (R311)
  | bmi (rel : Byte)  -- 30 BMI REL (R272)
  | andIzy (zp : Byte)  -- 31 AND IZY (R225)
  | rlaIzy (zp : Byte)  -- 33 RLA IZY (R311)
  | unopZpx34 (zp : Byte)  -- 34 UNOP ZPX (R315)
  | andZpx (zp : Byte)  -- 35 AND ZPX (R225)
  | rolZpx (zp : Byte)  -- 36 ROL ZPX (R253)
  | rlaZpx (zp : Byte)  -- 37 RLA ZPX (R311)
  | andAby (abs : Word)  -- 39 AND ABY (R225)
  | rlaAby (abs : Word)  -- 3B RLA ABY (R311)
  | unopAbx3C (abs : Word)  -- 3C UNOP ABX (R315)
  | andAbx (abs : Word)  -- 3D AND ABX (R225)
  | rolAbx (abs : Word)  -- 3E ROL ABX (R253)
  | rlaAbx (abs : Word)  -- 3F RLA ABX (R311)
  | eorIzx (zp : Byte)  -- 41 EOR IZX (R227)
  | sreIzx (zp : Byte)  -- 43 SRE IZX (R312)
  | unopZp44 (zp : Byte)  -- 44 UNOP ZP (R315)
  | eorZp (zp : Byte)  -- 45 EOR ZP (R227)
  | lsrZp (zp : Byte)  -- 46 LSR ZP (R252)
  | sreZp (zp : Byte)  -- 47 SRE ZP (R312)
  | eorImm (imm : Byte)  -- 49 EOR IMM (R227)
  | unaImm4B (imm : Byte)  -- 4B UNA IMM (R316)
  | jmpAbs (abs : Word)  -- 4C JMP ABS (R261)
  | eorAbs (abs : Word)  -- 4D EOR ABS (R227)
  | lsrAbs (abs : Word)  -- 4E LSR ABS (R252)
  | sreAbs (abs : Word)  -- 4F SRE ABS (R312)
  | bvc (rel : Byte)  -- 50 BVC REL (R274)
  | eorIzy (zp : Byte)  -- 51 EOR IZY (R227)
  | sreIzy (zp : Byte)  -- 53 SRE IZY (R312)
  | unopZpx54 (zp : Byte)  -- 54 UNOP ZPX (R315)
  | eorZpx (zp : Byte)  -- 55 EOR ZPX (R227)
  | lsrZpx (zp : Byte)  -- 56 LSR ZPX (R252)
  | sreZpx (zp : Byte)  -- 57 SRE ZPX (R312)
  | eorAby (abs : Word)  -- 59 EOR ABY (R227)
  | sreAby (abs : Word)  -- 5B SRE ABY (R312)
  | unopAbx5C (abs : Word)  -- 5C UNOP ABX (R315)
  | eorAbx (abs : Word)  -- 5D EOR ABX (R227)
  | lsrAbx (abs : Word)  -- 5E LSR ABX (R252)
  | sreAbx (abs : Word)  -- 5F SRE ABX (R312)
  | adcIzx (zp : Byte)  -- 61 ADC IZX (R221)
  | rraIzx (zp : Byte)  -- 63 RRA IZX (R313)
  | unopZp64 (zp : Byte)  -- 64 UNOP ZP (R315)
  | adcZp (zp : Byte)  -- 65 ADC ZP (R221)
  | rorZp (zp : Byte)  -- 66 ROR ZP (R254)
  | rraZp (zp : Byte)  -- 67 RRA ZP (R313)
  | adcImm (imm : Byte)  -- 69 ADC IMM (R221)
  | unaImm6B (imm : Byte)  -- 6B UNA IMM (R316)
  | jmpInd (abs : Word)  -- 6C JMP IND (R261)
  | adcAbs (abs : Word)  -- 6D ADC ABS (R221)
  | rorAbs (abs : Word)  -- 6E ROR ABS (R254)
  | rraAbs (abs : Word)  -- 6F RRA ABS (R313)
  | bvs (rel : Byte)  -- 70 BVS REL (R275)
  | adcIzy (zp : Byte)  -- 71 ADC IZY (R221)
  | rraIzy (zp : Byte)  -- 73 RRA IZY (R313)
  | unopZpx74 (zp : Byte)  -- 74 UNOP ZPX (R315)
  | adcZpx (zp : Byte)  -- 75 ADC ZPX (R221)
  | rorZpx (zp : Byte)  -- 76 ROR ZPX (R254)
  | rraZpx (zp : Byte)  -- 77 RRA ZPX (R313)
  | adcAby (abs : Word)  -- 79 ADC ABY (R221)
  | rraAby (abs : Word)  -- 7B RRA ABY (R313)
  | unopAbx7C (abs : Word)  -- 7C UNOP ABX (R315)
  | adcAbx (abs : Word)  -- 7D ADC ABX (R221)
  | rorAbx (abs : Word)  -- 7E ROR ABX (R254)
  | rraAbx (abs : Word)  -- 7F RRA ABX (R313)
  | unopImm80 (imm : Byte)  -- 80 UNOP IMM (R315)
  | staIzx (zp : Byte)  -- 81 STA IZX (R204)
  | unopImm82 (imm : Byte)  -- 82 UNOP IMM (R315)
  | saxIzx (zp : Byte)  -- 83 SAX IZX (R307)
  | styZp (zp : Byte)  -- 84 STY ZP (R206)
  | staZp (zp : Byte)  -- 85 STA ZP (R204)
  | stxZp (zp : Byte)  -- 86 STX ZP (R205)
  | saxZp (zp : Byte)  -- 87 SAX ZP (R307)
  | unopImm89 (imm : Byte)  -- 89 UNOP IMM (R315)
  | unaImm8B (imm : Byte)  -- 8B UNA IMM (R316)
  | styAbs (abs : Word)  -- 8C STY ABS (R206)
  | staAbs (abs : Word)  -- 8D STA ABS (R204)
  | stxAbs (abs : Word)  -- 8E STX ABS (R205)
  | saxAbs (abs : Word)  -- 8F SAX ABS (R307)
  | bcc (rel : Byte)  -- 90 BCC REL (R268)
  | staIzy (zp : Byte)  -- 91 STA IZY (R204)
  | unaIzy93 (zp : Byte)  -- 93 UNA IZY (R316)
  | styZpx (zp : Byte)  -- 94 STY ZPX (R206)
  | staZpx (zp : Byte)  -- 95 STA ZPX (R204)
  | stxZpy (zp : Byte)  -- 96 STX ZPY (R205)
  | saxZpy (zp : Byte)  -- 97 SAX ZPY (R307)
  | staAby (abs : Word)  -- 99 STA ABY (R204)
  | unaAby9B (abs : Word)  -- 9B UNA ABY (R316)
  | unaAbx9C (abs : Word)  -- 9C UNA ABX (R316)
  | staAbx (abs : Word)  -- 9D STA ABX (R204)
  | unaAby9E (abs : Word)  -- 9E UNA ABY (R316)
  | unaAby9F (abs : Word)  -- 9F UNA ABY (R316)
  | ldyImm (imm : Byte)  -- A0 LDY IMM (R203)
  | ldaIzx (zp : Byte)  -- A1 LDA IZX (R201)
  | ldxImm (imm : Byte)  -- A2 LDX IMM (R202)
  | laxIzx (zp : Byte)  -- A3 LAX IZX (R306)
  | ldyZp (zp : Byte)  -- A4 LDY ZP (R203)
  | ldaZp (zp : Byte)  -- A5 LDA ZP (R201)
  | ldxZp (zp : Byte)  -- A6 LDX ZP (R202)
  | laxZp (zp : Byte)  -- A7 LAX ZP (R306)
  | ldaImm (imm : Byte)  -- A9 LDA IMM (R201)
  | unaImmAB (imm : Byte)  -- AB UNA IMM (R316)
  | ldyAbs (abs : Word)  -- AC LDY ABS (R203)
  | ldaAbs (abs : Word)  -- AD LDA ABS (R201)
  | ldxAbs (abs : Word)  -- AE LDX ABS (R202)
  | laxAbs (abs : Word)  -- AF LAX ABS (R306)
  | bcs (rel : Byte)  -- B0 BCS REL (R269)
  | ldaIzy (zp : Byte)  -- B1 LDA IZY (R201)
  | laxIzy (zp : Byte)  -- B3 LAX IZY (R306)
  | ldyZpx (zp : Byte)  -- B4 LDY ZPX (R203)
  | ldaZpx (zp : Byte)  -- B5 LDA ZPX (R201)
  | ldxZpy (zp : Byte)  -- B6 LDX ZPY (R202)
  | laxZpy (zp : Byte)  -- B7 LAX ZPY (R306)
  | ldaAby (abs : Word)  -- B9 LDA ABY (R201)
  | unaAbyBB (abs : Word)  -- BB UNA ABY (R316)
  | ldyAbx (abs : Word)  -- BC LDY ABX (R203)
  | ldaAbx (abs : Word)  -- BD LDA ABX (R201)
  | ldxAby (abs : Word)  -- BE LDX ABY (R202)
  | laxAby (abs : Word)  -- BF LAX ABY (R306)
  | cpyImm (imm : Byte)  -- C0 CPY IMM (R230)
  | cmpIzx (zp : Byte)  -- C1 CMP IZX (R228)
  | unopImmC2 (imm : Byte)  -- C2 UNOP IMM (R315)
  | dcpIzx (zp : Byte)  -- C3 DCP IZX (R308)
  | cpyZp (zp : Byte)  -- C4 CPY ZP (R230)
  | cmpZp (zp : Byte)  -- C5 CMP ZP (R228)
  | decZp (zp : Byte)  -- C6 DEC ZP (R233)
  | dcpZp (zp : Byte)  -- C7 DCP ZP (R308)
  | cmpImm (imm : Byte)  -- C9 CMP IMM (R228)
  | unaImmCB (imm : Byte)  -- CB UNA IMM (R316)
  | cpyAbs (abs : Word)  -- CC CPY ABS (R230)
  | cmpAbs (abs : Word)  -- CD CMP ABS (R228)
  | decAbs (abs : Word)  -- CE DEC ABS (R233)
  | dcpAbs (abs : Word)  -- CF DCP ABS (R308)
  | bne (rel : Byte)  -- D0 BNE REL (R271)
  | cmpIzy (zp : Byte)  -- D1 CMP IZY (R228)
  | dcpIzy (zp : Byte)  -- D3 DCP IZY (R308)
  | unopZpxD4 (zp : Byte)  -- D4 UNOP ZPX (R315)
  | cmpZpx (zp : Byte)  -- D5 CMP ZPX (R228)
  | decZpx (zp : Byte)  -- D6 DEC ZPX (R233)
  | dcpZpx (zp : Byte)  -- D7 DCP ZPX (R308)
  | cmpAby (abs : Word)  -- D9 CMP ABY (R228)
  | dcpAby (abs : Word)  -- DB DCP ABY (R308)
  | unopAbxDC (abs : Word)  -- DC UNOP ABX (R315)
  | cmpAbx (abs : Word)  -- DD CMP ABX (R228)
  | decAbx (abs : Word)  -- DE DEC ABX (R233)
  | dcpAbx (abs : Word)  -- DF DCP ABX (R308)
  | cpxImm (imm : Byte)  -- E0 CPX IMM (R229)
  | sbcIzx (zp : Byte)  -- E1 SBC IZX (R222)
  | unopImmE2 (imm : Byte)  -- E2 UNOP IMM (R315)
  | iscIzx (zp : Byte)  -- E3 ISC IZX (R309)
  | cpxZp (zp : Byte)  -- E4 CPX ZP (R229)
  | sbcZp (zp : Byte)  -- E5 SBC ZP (R222)
  | incZp (zp : Byte)  -- E6 INC ZP (R232)
  | iscZp (zp : Byte)  -- E7 ISC ZP (R309)
  | sbcImm (imm : Byte)  -- E9 SBC IMM (R222)
  | usbcImm (imm : Byte)  -- EB USBC IMM (R314)
  | cpxAbs (abs : Word)  -- EC CPX ABS (R229)
  | sbcAbs (abs : Word)  -- ED SBC ABS (R222)
  | incAbs (abs : Word)  -- EE INC ABS (R232)
  | iscAbs (abs : Word)  -- EF ISC ABS (R309)
  | beq (rel : Byte)  -- F0 BEQ REL (R270)
  | sbcIzy (zp : Byte)  -- F1 SBC IZY (R222)
  | iscIzy (zp : Byte)  -- F3 ISC IZY (R309)
  | unopZpxF4 (zp : Byte)  -- F4 UNOP ZPX (R315)
  | sbcZpx (zp : Byte)  -- F5 SBC ZPX (R222)
  | incZpx (zp : Byte)  -- F6 INC ZPX (R232)
  | iscZpx (zp : Byte)  -- F7 ISC ZPX (R309)
  | sbcAby (abs : Word)  -- F9 SBC ABY (R222)
  | iscAby (abs : Word)  -- FB ISC ABY (R309)
  | unopAbxFC (abs : Word)  -- FC UNOP ABX (R315)
  | sbcAbx (abs : Word)  -- FD SBC ABX (R222)
  | incAbx (abs : Word)  -- FE INC ABX (R232)
  | iscAbx (abs : Word)  -- FF ISC ABX (R309)
  | brk  -- 00 BRK IMP (R266)
  | unaImp02  -- 02 UNA IMP (R316)
  | php  -- 08 PHP IMP (R287)
  | aslAcc  -- 0A ASL ACC (R251)
  | unaImp12  -- 12 UNA IMP (R316)
  | clc  -- 18 CLC IMP (R290)
  | unopImp1A  -- 1A UNOP IMP (R315)
  | unaImp22  -- 22 UNA IMP (R316)
  | plp  -- 28 PLP IMP (R289)
  | rolAcc  -- 2A ROL ACC (R253)
  | unaImp32  -- 32 UNA IMP (R316)
  | sec  -- 38 SEC IMP (R291)
  | unopImp3A  -- 3A UNOP IMP (R315)
  | rti  -- 40 RTI IMP (R265)
  | unaImp42  -- 42 UNA IMP (R316)
  | pha  -- 48 PHA IMP (R286)
  | lsrAcc  -- 4A LSR ACC (R252)
  | unaImp52  -- 52 UNA IMP (R316)
  | cli  -- 58 CLI IMP (R292)
  | unopImp5A  -- 5A UNOP IMP (R315)
  | rts  -- 60 RTS IMP (R264)
  | unaImp62  -- 62 UNA IMP (R316)
  | pla  -- 68 PLA IMP (R288)
  | rorAcc  -- 6A ROR ACC (R254)
  | unaImp72  -- 72 UNA IMP (R316)
  | sei  -- 78 SEI IMP (R293)
  | unopImp7A  -- 7A UNOP IMP (R315)
  | dey  -- 88 DEY IMP (R237)
  | txa  -- 8A TXA IMP (R209)
  | unaImp92  -- 92 UNA IMP (R316)
  | tya  -- 98 TYA IMP (R210)
  | txs  -- 9A TXS IMP (R212)
  | tay  -- A8 TAY IMP (R208)
  | tax  -- AA TAX IMP (R207)
  | unaImpB2  -- B2 UNA IMP (R316)
  | clv  -- B8 CLV IMP (R296)
  | tsx  -- BA TSX IMP (R211)
  | iny  -- C8 INY IMP (R235)
  | dex  -- CA DEX IMP (R236)
  | unaImpD2  -- D2 UNA IMP (R316)
  | cld  -- D8 CLD IMP (R294)
  | unopImpDA  -- DA UNOP IMP (R315)
  | inx  -- E8 INX IMP (R234)
  | nop  -- EA NOP IMP (R297)
  | unaImpF2  -- F2 UNA IMP (R316)
  | sed  -- F8 SED IMP (R295)
  | unopImpFA  -- FA UNOP IMP (R315)
deriving DecidableEq, Repr

/-- The mnemonic of an instruction, as spec/opcode_table.json spells it. -/
def Instr.mnemonic : Instr → Mnemonic
    | .brk => .BRK
    | .oraIzx _ | .oraZp _ | .oraImm _ | .oraAbs _ | .oraIzy _ | .oraZpx _ | .oraAby _ | .oraAbx _
    => .ORA
    | .unaImp02 | .unaImm0B _ | .unaImp12 | .unaImp22 | .unaImm2B _ | .unaImp32 | .unaImp42 |
    .unaImm4B _ | .unaImp52 | .unaImp62 | .unaImm6B _ | .unaImp72 | .unaImm8B _ | .unaImp92 |
    .unaIzy93 _ | .unaAby9B _ | .unaAbx9C _ | .unaAby9E _ | .unaAby9F _ | .unaImmAB _ | .unaImpB2 |
    .unaAbyBB _ | .unaImmCB _ | .unaImpD2 | .unaImpF2 => .UNA
    | .sloIzx _ | .sloZp _ | .sloAbs _ | .sloIzy _ | .sloZpx _ | .sloAby _ | .sloAbx _ => .SLO
    | .unopZp04 _ | .unopAbs0C _ | .unopZpx14 _ | .unopImp1A | .unopAbx1C _ | .unopZpx34 _ |
    .unopImp3A | .unopAbx3C _ | .unopZp44 _ | .unopZpx54 _ | .unopImp5A | .unopAbx5C _ | .unopZp64 _
    | .unopZpx74 _ | .unopImp7A | .unopAbx7C _ | .unopImm80 _ | .unopImm82 _ | .unopImm89 _ |
    .unopImmC2 _ | .unopZpxD4 _ | .unopImpDA | .unopAbxDC _ | .unopImmE2 _ | .unopZpxF4 _ |
    .unopImpFA | .unopAbxFC _ => .UNOP
    | .aslZp _ | .aslAcc | .aslAbs _ | .aslZpx _ | .aslAbx _ => .ASL
    | .php => .PHP
    | .bpl _ => .BPL
    | .clc => .CLC
    | .jsrAbs _ => .JSR
    | .andIzx _ | .andZp _ | .andImm _ | .andAbs _ | .andIzy _ | .andZpx _ | .andAby _ | .andAbx _
    => .AND
    | .rlaIzx _ | .rlaZp _ | .rlaAbs _ | .rlaIzy _ | .rlaZpx _ | .rlaAby _ | .rlaAbx _ => .RLA
    | .bitZp _ | .bitAbs _ => .BIT
    | .rolZp _ | .rolAcc | .rolAbs _ | .rolZpx _ | .rolAbx _ => .ROL
    | .plp => .PLP
    | .bmi _ => .BMI
    | .sec => .SEC
    | .rti => .RTI
    | .eorIzx _ | .eorZp _ | .eorImm _ | .eorAbs _ | .eorIzy _ | .eorZpx _ | .eorAby _ | .eorAbx _
    => .EOR
    | .sreIzx _ | .sreZp _ | .sreAbs _ | .sreIzy _ | .sreZpx _ | .sreAby _ | .sreAbx _ => .SRE
    | .lsrZp _ | .lsrAcc | .lsrAbs _ | .lsrZpx _ | .lsrAbx _ => .LSR
    | .pha => .PHA
    | .jmpAbs _ | .jmpInd _ => .JMP
    | .bvc _ => .BVC
    | .cli => .CLI
    | .rts => .RTS
    | .adcIzx _ | .adcZp _ | .adcImm _ | .adcAbs _ | .adcIzy _ | .adcZpx _ | .adcAby _ | .adcAbx _
    => .ADC
    | .rraIzx _ | .rraZp _ | .rraAbs _ | .rraIzy _ | .rraZpx _ | .rraAby _ | .rraAbx _ => .RRA
    | .rorZp _ | .rorAcc | .rorAbs _ | .rorZpx _ | .rorAbx _ => .ROR
    | .pla => .PLA
    | .bvs _ => .BVS
    | .sei => .SEI
    | .staIzx _ | .staZp _ | .staAbs _ | .staIzy _ | .staZpx _ | .staAby _ | .staAbx _ => .STA
    | .saxIzx _ | .saxZp _ | .saxAbs _ | .saxZpy _ => .SAX
    | .styZp _ | .styAbs _ | .styZpx _ => .STY
    | .stxZp _ | .stxAbs _ | .stxZpy _ => .STX
    | .dey => .DEY
    | .txa => .TXA
    | .bcc _ => .BCC
    | .tya => .TYA
    | .txs => .TXS
    | .ldyImm _ | .ldyZp _ | .ldyAbs _ | .ldyZpx _ | .ldyAbx _ => .LDY
    | .ldaIzx _ | .ldaZp _ | .ldaImm _ | .ldaAbs _ | .ldaIzy _ | .ldaZpx _ | .ldaAby _ | .ldaAbx _
    => .LDA
    | .ldxImm _ | .ldxZp _ | .ldxAbs _ | .ldxZpy _ | .ldxAby _ => .LDX
    | .laxIzx _ | .laxZp _ | .laxAbs _ | .laxIzy _ | .laxZpy _ | .laxAby _ => .LAX
    | .tay => .TAY
    | .tax => .TAX
    | .bcs _ => .BCS
    | .clv => .CLV
    | .tsx => .TSX
    | .cpyImm _ | .cpyZp _ | .cpyAbs _ => .CPY
    | .cmpIzx _ | .cmpZp _ | .cmpImm _ | .cmpAbs _ | .cmpIzy _ | .cmpZpx _ | .cmpAby _ | .cmpAbx _
    => .CMP
    | .dcpIzx _ | .dcpZp _ | .dcpAbs _ | .dcpIzy _ | .dcpZpx _ | .dcpAby _ | .dcpAbx _ => .DCP
    | .decZp _ | .decAbs _ | .decZpx _ | .decAbx _ => .DEC
    | .iny => .INY
    | .dex => .DEX
    | .bne _ => .BNE
    | .cld => .CLD
    | .cpxImm _ | .cpxZp _ | .cpxAbs _ => .CPX
    | .sbcIzx _ | .sbcZp _ | .sbcImm _ | .sbcAbs _ | .sbcIzy _ | .sbcZpx _ | .sbcAby _ | .sbcAbx _
    => .SBC
    | .iscIzx _ | .iscZp _ | .iscAbs _ | .iscIzy _ | .iscZpx _ | .iscAby _ | .iscAbx _ => .ISC
    | .incZp _ | .incAbs _ | .incZpx _ | .incAbx _ => .INC
    | .inx => .INX
    | .nop => .NOP
    | .usbcImm _ => .USBC
    | .beq _ => .BEQ
    | .sed => .SED

/-- The format of an instruction with its operand field (R132). -/
def Instr.operand : Instr → Operand
  | .brk => .imp
  | .oraIzx x => .izx x
  | .unaImp02 => .imp
  | .sloIzx x => .izx x
  | .unopZp04 x => .zp x
  | .oraZp x => .zp x
  | .aslZp x => .zp x
  | .sloZp x => .zp x
  | .php => .imp
  | .oraImm x => .imm x
  | .aslAcc => .acc
  | .unaImm0B x => .imm x
  | .unopAbs0C x => .abs x
  | .oraAbs x => .abs x
  | .aslAbs x => .abs x
  | .sloAbs x => .abs x
  | .bpl x => .rel x
  | .oraIzy x => .izy x
  | .unaImp12 => .imp
  | .sloIzy x => .izy x
  | .unopZpx14 x => .zpx x
  | .oraZpx x => .zpx x
  | .aslZpx x => .zpx x
  | .sloZpx x => .zpx x
  | .clc => .imp
  | .oraAby x => .aby x
  | .unopImp1A => .imp
  | .sloAby x => .aby x
  | .unopAbx1C x => .abx x
  | .oraAbx x => .abx x
  | .aslAbx x => .abx x
  | .sloAbx x => .abx x
  | .jsrAbs x => .abs x
  | .andIzx x => .izx x
  | .unaImp22 => .imp
  | .rlaIzx x => .izx x
  | .bitZp x => .zp x
  | .andZp x => .zp x
  | .rolZp x => .zp x
  | .rlaZp x => .zp x
  | .plp => .imp
  | .andImm x => .imm x
  | .rolAcc => .acc
  | .unaImm2B x => .imm x
  | .bitAbs x => .abs x
  | .andAbs x => .abs x
  | .rolAbs x => .abs x
  | .rlaAbs x => .abs x
  | .bmi x => .rel x
  | .andIzy x => .izy x
  | .unaImp32 => .imp
  | .rlaIzy x => .izy x
  | .unopZpx34 x => .zpx x
  | .andZpx x => .zpx x
  | .rolZpx x => .zpx x
  | .rlaZpx x => .zpx x
  | .sec => .imp
  | .andAby x => .aby x
  | .unopImp3A => .imp
  | .rlaAby x => .aby x
  | .unopAbx3C x => .abx x
  | .andAbx x => .abx x
  | .rolAbx x => .abx x
  | .rlaAbx x => .abx x
  | .rti => .imp
  | .eorIzx x => .izx x
  | .unaImp42 => .imp
  | .sreIzx x => .izx x
  | .unopZp44 x => .zp x
  | .eorZp x => .zp x
  | .lsrZp x => .zp x
  | .sreZp x => .zp x
  | .pha => .imp
  | .eorImm x => .imm x
  | .lsrAcc => .acc
  | .unaImm4B x => .imm x
  | .jmpAbs x => .abs x
  | .eorAbs x => .abs x
  | .lsrAbs x => .abs x
  | .sreAbs x => .abs x
  | .bvc x => .rel x
  | .eorIzy x => .izy x
  | .unaImp52 => .imp
  | .sreIzy x => .izy x
  | .unopZpx54 x => .zpx x
  | .eorZpx x => .zpx x
  | .lsrZpx x => .zpx x
  | .sreZpx x => .zpx x
  | .cli => .imp
  | .eorAby x => .aby x
  | .unopImp5A => .imp
  | .sreAby x => .aby x
  | .unopAbx5C x => .abx x
  | .eorAbx x => .abx x
  | .lsrAbx x => .abx x
  | .sreAbx x => .abx x
  | .rts => .imp
  | .adcIzx x => .izx x
  | .unaImp62 => .imp
  | .rraIzx x => .izx x
  | .unopZp64 x => .zp x
  | .adcZp x => .zp x
  | .rorZp x => .zp x
  | .rraZp x => .zp x
  | .pla => .imp
  | .adcImm x => .imm x
  | .rorAcc => .acc
  | .unaImm6B x => .imm x
  | .jmpInd x => .ind x
  | .adcAbs x => .abs x
  | .rorAbs x => .abs x
  | .rraAbs x => .abs x
  | .bvs x => .rel x
  | .adcIzy x => .izy x
  | .unaImp72 => .imp
  | .rraIzy x => .izy x
  | .unopZpx74 x => .zpx x
  | .adcZpx x => .zpx x
  | .rorZpx x => .zpx x
  | .rraZpx x => .zpx x
  | .sei => .imp
  | .adcAby x => .aby x
  | .unopImp7A => .imp
  | .rraAby x => .aby x
  | .unopAbx7C x => .abx x
  | .adcAbx x => .abx x
  | .rorAbx x => .abx x
  | .rraAbx x => .abx x
  | .unopImm80 x => .imm x
  | .staIzx x => .izx x
  | .unopImm82 x => .imm x
  | .saxIzx x => .izx x
  | .styZp x => .zp x
  | .staZp x => .zp x
  | .stxZp x => .zp x
  | .saxZp x => .zp x
  | .dey => .imp
  | .unopImm89 x => .imm x
  | .txa => .imp
  | .unaImm8B x => .imm x
  | .styAbs x => .abs x
  | .staAbs x => .abs x
  | .stxAbs x => .abs x
  | .saxAbs x => .abs x
  | .bcc x => .rel x
  | .staIzy x => .izy x
  | .unaImp92 => .imp
  | .unaIzy93 x => .izy x
  | .styZpx x => .zpx x
  | .staZpx x => .zpx x
  | .stxZpy x => .zpy x
  | .saxZpy x => .zpy x
  | .tya => .imp
  | .staAby x => .aby x
  | .txs => .imp
  | .unaAby9B x => .aby x
  | .unaAbx9C x => .abx x
  | .staAbx x => .abx x
  | .unaAby9E x => .aby x
  | .unaAby9F x => .aby x
  | .ldyImm x => .imm x
  | .ldaIzx x => .izx x
  | .ldxImm x => .imm x
  | .laxIzx x => .izx x
  | .ldyZp x => .zp x
  | .ldaZp x => .zp x
  | .ldxZp x => .zp x
  | .laxZp x => .zp x
  | .tay => .imp
  | .ldaImm x => .imm x
  | .tax => .imp
  | .unaImmAB x => .imm x
  | .ldyAbs x => .abs x
  | .ldaAbs x => .abs x
  | .ldxAbs x => .abs x
  | .laxAbs x => .abs x
  | .bcs x => .rel x
  | .ldaIzy x => .izy x
  | .unaImpB2 => .imp
  | .laxIzy x => .izy x
  | .ldyZpx x => .zpx x
  | .ldaZpx x => .zpx x
  | .ldxZpy x => .zpy x
  | .laxZpy x => .zpy x
  | .clv => .imp
  | .ldaAby x => .aby x
  | .tsx => .imp
  | .unaAbyBB x => .aby x
  | .ldyAbx x => .abx x
  | .ldaAbx x => .abx x
  | .ldxAby x => .aby x
  | .laxAby x => .aby x
  | .cpyImm x => .imm x
  | .cmpIzx x => .izx x
  | .unopImmC2 x => .imm x
  | .dcpIzx x => .izx x
  | .cpyZp x => .zp x
  | .cmpZp x => .zp x
  | .decZp x => .zp x
  | .dcpZp x => .zp x
  | .iny => .imp
  | .cmpImm x => .imm x
  | .dex => .imp
  | .unaImmCB x => .imm x
  | .cpyAbs x => .abs x
  | .cmpAbs x => .abs x
  | .decAbs x => .abs x
  | .dcpAbs x => .abs x
  | .bne x => .rel x
  | .cmpIzy x => .izy x
  | .unaImpD2 => .imp
  | .dcpIzy x => .izy x
  | .unopZpxD4 x => .zpx x
  | .cmpZpx x => .zpx x
  | .decZpx x => .zpx x
  | .dcpZpx x => .zpx x
  | .cld => .imp
  | .cmpAby x => .aby x
  | .unopImpDA => .imp
  | .dcpAby x => .aby x
  | .unopAbxDC x => .abx x
  | .cmpAbx x => .abx x
  | .decAbx x => .abx x
  | .dcpAbx x => .abx x
  | .cpxImm x => .imm x
  | .sbcIzx x => .izx x
  | .unopImmE2 x => .imm x
  | .iscIzx x => .izx x
  | .cpxZp x => .zp x
  | .sbcZp x => .zp x
  | .incZp x => .zp x
  | .iscZp x => .zp x
  | .inx => .imp
  | .sbcImm x => .imm x
  | .nop => .imp
  | .usbcImm x => .imm x
  | .cpxAbs x => .abs x
  | .sbcAbs x => .abs x
  | .incAbs x => .abs x
  | .iscAbs x => .abs x
  | .beq x => .rel x
  | .sbcIzy x => .izy x
  | .unaImpF2 => .imp
  | .iscIzy x => .izy x
  | .unopZpxF4 x => .zpx x
  | .sbcZpx x => .zpx x
  | .incZpx x => .zpx x
  | .iscZpx x => .zpx x
  | .sed => .imp
  | .sbcAby x => .aby x
  | .unopImpFA => .imp
  | .iscAby x => .aby x
  | .unopAbxFC x => .abx x
  | .sbcAbx x => .abx x
  | .incAbx x => .abx x
  | .iscAbx x => .abx x

/-- The length of an instruction in bytes (R134). -/
def Instr.length (i : Instr) : Nat := i.operand.length

end Sys2Proof
end

