-- ==== Sys2Proof/Decode.lean ====
section
/-! DEFINITION. Decoding and encoding (spec/30_encoding.md). Decode is by table: a fixed table of 256
entries indexed by the opcode byte (R131, R164), written as the sixteen rows of the opcode matrix
(R156). After it the encoder, written from the same matrix by instruction, and the cycle tables
`BASE_CYCLES` and `PENALTY` (R131, R154, R156). -/

namespace Sys2Proof
open Sys2Proof.Machine

/-- Why bytes are no instruction. No opcode byte is refused (R162, R164): only missing bytes are. -/
inductive DecodeError where
  | noOpcode                      -- there is no byte at all
  | truncated (opcode : Byte)     -- operand bytes of this opcode are missing
deriving DecidableEq, Repr

/-- One entry of the opcode table: the instruction, given its operand bytes (R130, R132). -/
inductive Form where
  | none (i : Instr)
  | byte (i : Byte → Instr)
  | word (i : Word → Instr)

/-- How many operand bytes follow the opcode (R130, R134). -/
def Form.operandBytes : Form → Nat
  | .none _ => 0
  | .byte _ => 1
  | .word _ => 2

namespace Opcodes

/-- Opcodes 00 to 0F (R156). -/
def row0 : List Form :=
  [.none .brk, .byte .oraIzx, .none .unaImp02, .byte .sloIzx, .byte .unopZp04, .byte .oraZp, .byte
   .aslZp, .byte .sloZp, .none .php, .byte .oraImm, .none .aslAcc, .byte .unaImm0B, .word
   .unopAbs0C, .word .oraAbs, .word .aslAbs, .word .sloAbs]
/-- Opcodes 10 to 1F (R156). -/
def row1 : List Form :=
  [.byte .bpl, .byte .oraIzy, .none .unaImp12, .byte .sloIzy, .byte .unopZpx14, .byte .oraZpx,
   .byte .aslZpx, .byte .sloZpx, .none .clc, .word .oraAby, .none .unopImp1A, .word .sloAby, .word
   .unopAbx1C, .word .oraAbx, .word .aslAbx, .word .sloAbx]
/-- Opcodes 20 to 2F (R156). -/
def row2 : List Form :=
  [.word .jsrAbs, .byte .andIzx, .none .unaImp22, .byte .rlaIzx, .byte .bitZp, .byte .andZp, .byte
   .rolZp, .byte .rlaZp, .none .plp, .byte .andImm, .none .rolAcc, .byte .unaImm2B, .word .bitAbs,
   .word .andAbs, .word .rolAbs, .word .rlaAbs]
/-- Opcodes 30 to 3F (R156). -/
def row3 : List Form :=
  [.byte .bmi, .byte .andIzy, .none .unaImp32, .byte .rlaIzy, .byte .unopZpx34, .byte .andZpx,
   .byte .rolZpx, .byte .rlaZpx, .none .sec, .word .andAby, .none .unopImp3A, .word .rlaAby, .word
   .unopAbx3C, .word .andAbx, .word .rolAbx, .word .rlaAbx]
/-- Opcodes 40 to 4F (R156). -/
def row4 : List Form :=
  [.none .rti, .byte .eorIzx, .none .unaImp42, .byte .sreIzx, .byte .unopZp44, .byte .eorZp, .byte
   .lsrZp, .byte .sreZp, .none .pha, .byte .eorImm, .none .lsrAcc, .byte .unaImm4B, .word .jmpAbs,
   .word .eorAbs, .word .lsrAbs, .word .sreAbs]
/-- Opcodes 50 to 5F (R156). -/
def row5 : List Form :=
  [.byte .bvc, .byte .eorIzy, .none .unaImp52, .byte .sreIzy, .byte .unopZpx54, .byte .eorZpx,
   .byte .lsrZpx, .byte .sreZpx, .none .cli, .word .eorAby, .none .unopImp5A, .word .sreAby, .word
   .unopAbx5C, .word .eorAbx, .word .lsrAbx, .word .sreAbx]
/-- Opcodes 60 to 6F (R156). -/
def row6 : List Form :=
  [.none .rts, .byte .adcIzx, .none .unaImp62, .byte .rraIzx, .byte .unopZp64, .byte .adcZp, .byte
   .rorZp, .byte .rraZp, .none .pla, .byte .adcImm, .none .rorAcc, .byte .unaImm6B, .word .jmpInd,
   .word .adcAbs, .word .rorAbs, .word .rraAbs]
/-- Opcodes 70 to 7F (R156). -/
def row7 : List Form :=
  [.byte .bvs, .byte .adcIzy, .none .unaImp72, .byte .rraIzy, .byte .unopZpx74, .byte .adcZpx,
   .byte .rorZpx, .byte .rraZpx, .none .sei, .word .adcAby, .none .unopImp7A, .word .rraAby, .word
   .unopAbx7C, .word .adcAbx, .word .rorAbx, .word .rraAbx]
/-- Opcodes 80 to 8F (R156). -/
def row8 : List Form :=
  [.byte .unopImm80, .byte .staIzx, .byte .unopImm82, .byte .saxIzx, .byte .styZp, .byte .staZp,
   .byte .stxZp, .byte .saxZp, .none .dey, .byte .unopImm89, .none .txa, .byte .unaImm8B, .word
   .styAbs, .word .staAbs, .word .stxAbs, .word .saxAbs]
/-- Opcodes 90 to 9F (R156). -/
def row9 : List Form :=
  [.byte .bcc, .byte .staIzy, .none .unaImp92, .byte .unaIzy93, .byte .styZpx, .byte .staZpx,
   .byte .stxZpy, .byte .saxZpy, .none .tya, .word .staAby, .none .txs, .word .unaAby9B, .word
   .unaAbx9C, .word .staAbx, .word .unaAby9E, .word .unaAby9F]
/-- Opcodes A0 to AF (R156). -/
def rowA : List Form :=
  [.byte .ldyImm, .byte .ldaIzx, .byte .ldxImm, .byte .laxIzx, .byte .ldyZp, .byte .ldaZp, .byte
   .ldxZp, .byte .laxZp, .none .tay, .byte .ldaImm, .none .tax, .byte .unaImmAB, .word .ldyAbs,
   .word .ldaAbs, .word .ldxAbs, .word .laxAbs]
/-- Opcodes B0 to BF (R156). -/
def rowB : List Form :=
  [.byte .bcs, .byte .ldaIzy, .none .unaImpB2, .byte .laxIzy, .byte .ldyZpx, .byte .ldaZpx, .byte
   .ldxZpy, .byte .laxZpy, .none .clv, .word .ldaAby, .none .tsx, .word .unaAbyBB, .word .ldyAbx,
   .word .ldaAbx, .word .ldxAby, .word .laxAby]
/-- Opcodes C0 to CF (R156). -/
def rowC : List Form :=
  [.byte .cpyImm, .byte .cmpIzx, .byte .unopImmC2, .byte .dcpIzx, .byte .cpyZp, .byte .cmpZp,
   .byte .decZp, .byte .dcpZp, .none .iny, .byte .cmpImm, .none .dex, .byte .unaImmCB, .word
   .cpyAbs, .word .cmpAbs, .word .decAbs, .word .dcpAbs]
/-- Opcodes D0 to DF (R156). -/
def rowD : List Form :=
  [.byte .bne, .byte .cmpIzy, .none .unaImpD2, .byte .dcpIzy, .byte .unopZpxD4, .byte .cmpZpx,
   .byte .decZpx, .byte .dcpZpx, .none .cld, .word .cmpAby, .none .unopImpDA, .word .dcpAby, .word
   .unopAbxDC, .word .cmpAbx, .word .decAbx, .word .dcpAbx]
/-- Opcodes E0 to EF (R156). -/
def rowE : List Form :=
  [.byte .cpxImm, .byte .sbcIzx, .byte .unopImmE2, .byte .iscIzx, .byte .cpxZp, .byte .sbcZp,
   .byte .incZp, .byte .iscZp, .none .inx, .byte .sbcImm, .none .nop, .byte .usbcImm, .word
   .cpxAbs, .word .sbcAbs, .word .incAbs, .word .iscAbs]
/-- Opcodes F0 to FF (R156). -/
def rowF : List Form :=
  [.byte .beq, .byte .sbcIzy, .none .unaImpF2, .byte .iscIzy, .byte .unopZpxF4, .byte .sbcZpx,
   .byte .incZpx, .byte .iscZpx, .none .sed, .word .sbcAby, .none .unopImpFA, .word .iscAby, .word
   .unopAbxFC, .word .sbcAbx, .word .incAbx, .word .iscAbx]

/-- The opcode matrix (R156): row = high nibble, column = low nibble of the opcode byte. -/
def matrix : List (List Form) :=
  [row0, row1, row2, row3, row4, row5, row6, row7] ++
  [row8, row9, rowA, rowB, rowC, rowD, rowE, rowF]

end Opcodes

/-- The table entry of an opcode byte (R164): total on the 256 bytes. -/
def opcodeForm (op : Byte) : Form :=
  (Opcodes.matrix.getD (op.toNat / 16) []).getD (op.toNat % 16) (.none .unaImp02)

/-- Decode one instruction from the bytes at its address: the instruction and the bytes after it
(R130). Total; it rejects only bytes that end too early. -/
def decode : List Byte → Except DecodeError (Instr × List Byte)
  | [] => .error .noOpcode
  | op :: rest =>
    match opcodeForm op, rest with
    | .none i, rest => .ok (i, rest)
    | .byte i, b :: rest => .ok (i b, rest)
    | .word i, l :: h :: rest => .ok (i (word h l), rest)
    | _, _ => .error (.truncated op)

/-- The opcode byte of an instruction (R156). -/
def Instr.opcode : Instr → Byte
  | .brk => 0x00
  | .oraIzx _ => 0x01
  | .unaImp02 => 0x02
  | .sloIzx _ => 0x03
  | .unopZp04 _ => 0x04
  | .oraZp _ => 0x05
  | .aslZp _ => 0x06
  | .sloZp _ => 0x07
  | .php => 0x08
  | .oraImm _ => 0x09
  | .aslAcc => 0x0A
  | .unaImm0B _ => 0x0B
  | .unopAbs0C _ => 0x0C
  | .oraAbs _ => 0x0D
  | .aslAbs _ => 0x0E
  | .sloAbs _ => 0x0F
  | .bpl _ => 0x10
  | .oraIzy _ => 0x11
  | .unaImp12 => 0x12
  | .sloIzy _ => 0x13
  | .unopZpx14 _ => 0x14
  | .oraZpx _ => 0x15
  | .aslZpx _ => 0x16
  | .sloZpx _ => 0x17
  | .clc => 0x18
  | .oraAby _ => 0x19
  | .unopImp1A => 0x1A
  | .sloAby _ => 0x1B
  | .unopAbx1C _ => 0x1C
  | .oraAbx _ => 0x1D
  | .aslAbx _ => 0x1E
  | .sloAbx _ => 0x1F
  | .jsrAbs _ => 0x20
  | .andIzx _ => 0x21
  | .unaImp22 => 0x22
  | .rlaIzx _ => 0x23
  | .bitZp _ => 0x24
  | .andZp _ => 0x25
  | .rolZp _ => 0x26
  | .rlaZp _ => 0x27
  | .plp => 0x28
  | .andImm _ => 0x29
  | .rolAcc => 0x2A
  | .unaImm2B _ => 0x2B
  | .bitAbs _ => 0x2C
  | .andAbs _ => 0x2D
  | .rolAbs _ => 0x2E
  | .rlaAbs _ => 0x2F
  | .bmi _ => 0x30
  | .andIzy _ => 0x31
  | .unaImp32 => 0x32
  | .rlaIzy _ => 0x33
  | .unopZpx34 _ => 0x34
  | .andZpx _ => 0x35
  | .rolZpx _ => 0x36
  | .rlaZpx _ => 0x37
  | .sec => 0x38
  | .andAby _ => 0x39
  | .unopImp3A => 0x3A
  | .rlaAby _ => 0x3B
  | .unopAbx3C _ => 0x3C
  | .andAbx _ => 0x3D
  | .rolAbx _ => 0x3E
  | .rlaAbx _ => 0x3F
  | .rti => 0x40
  | .eorIzx _ => 0x41
  | .unaImp42 => 0x42
  | .sreIzx _ => 0x43
  | .unopZp44 _ => 0x44
  | .eorZp _ => 0x45
  | .lsrZp _ => 0x46
  | .sreZp _ => 0x47
  | .pha => 0x48
  | .eorImm _ => 0x49
  | .lsrAcc => 0x4A
  | .unaImm4B _ => 0x4B
  | .jmpAbs _ => 0x4C
  | .eorAbs _ => 0x4D
  | .lsrAbs _ => 0x4E
  | .sreAbs _ => 0x4F
  | .bvc _ => 0x50
  | .eorIzy _ => 0x51
  | .unaImp52 => 0x52
  | .sreIzy _ => 0x53
  | .unopZpx54 _ => 0x54
  | .eorZpx _ => 0x55
  | .lsrZpx _ => 0x56
  | .sreZpx _ => 0x57
  | .cli => 0x58
  | .eorAby _ => 0x59
  | .unopImp5A => 0x5A
  | .sreAby _ => 0x5B
  | .unopAbx5C _ => 0x5C
  | .eorAbx _ => 0x5D
  | .lsrAbx _ => 0x5E
  | .sreAbx _ => 0x5F
  | .rts => 0x60
  | .adcIzx _ => 0x61
  | .unaImp62 => 0x62
  | .rraIzx _ => 0x63
  | .unopZp64 _ => 0x64
  | .adcZp _ => 0x65
  | .rorZp _ => 0x66
  | .rraZp _ => 0x67
  | .pla => 0x68
  | .adcImm _ => 0x69
  | .rorAcc => 0x6A
  | .unaImm6B _ => 0x6B
  | .jmpInd _ => 0x6C
  | .adcAbs _ => 0x6D
  | .rorAbs _ => 0x6E
  | .rraAbs _ => 0x6F
  | .bvs _ => 0x70
  | .adcIzy _ => 0x71
  | .unaImp72 => 0x72
  | .rraIzy _ => 0x73
  | .unopZpx74 _ => 0x74
  | .adcZpx _ => 0x75
  | .rorZpx _ => 0x76
  | .rraZpx _ => 0x77
  | .sei => 0x78
  | .adcAby _ => 0x79
  | .unopImp7A => 0x7A
  | .rraAby _ => 0x7B
  | .unopAbx7C _ => 0x7C
  | .adcAbx _ => 0x7D
  | .rorAbx _ => 0x7E
  | .rraAbx _ => 0x7F
  | .unopImm80 _ => 0x80
  | .staIzx _ => 0x81
  | .unopImm82 _ => 0x82
  | .saxIzx _ => 0x83
  | .styZp _ => 0x84
  | .staZp _ => 0x85
  | .stxZp _ => 0x86
  | .saxZp _ => 0x87
  | .dey => 0x88
  | .unopImm89 _ => 0x89
  | .txa => 0x8A
  | .unaImm8B _ => 0x8B
  | .styAbs _ => 0x8C
  | .staAbs _ => 0x8D
  | .stxAbs _ => 0x8E
  | .saxAbs _ => 0x8F
  | .bcc _ => 0x90
  | .staIzy _ => 0x91
  | .unaImp92 => 0x92
  | .unaIzy93 _ => 0x93
  | .styZpx _ => 0x94
  | .staZpx _ => 0x95
  | .stxZpy _ => 0x96
  | .saxZpy _ => 0x97
  | .tya => 0x98
  | .staAby _ => 0x99
  | .txs => 0x9A
  | .unaAby9B _ => 0x9B
  | .unaAbx9C _ => 0x9C
  | .staAbx _ => 0x9D
  | .unaAby9E _ => 0x9E
  | .unaAby9F _ => 0x9F
  | .ldyImm _ => 0xA0
  | .ldaIzx _ => 0xA1
  | .ldxImm _ => 0xA2
  | .laxIzx _ => 0xA3
  | .ldyZp _ => 0xA4
  | .ldaZp _ => 0xA5
  | .ldxZp _ => 0xA6
  | .laxZp _ => 0xA7
  | .tay => 0xA8
  | .ldaImm _ => 0xA9
  | .tax => 0xAA
  | .unaImmAB _ => 0xAB
  | .ldyAbs _ => 0xAC
  | .ldaAbs _ => 0xAD
  | .ldxAbs _ => 0xAE
  | .laxAbs _ => 0xAF
  | .bcs _ => 0xB0
  | .ldaIzy _ => 0xB1
  | .unaImpB2 => 0xB2
  | .laxIzy _ => 0xB3
  | .ldyZpx _ => 0xB4
  | .ldaZpx _ => 0xB5
  | .ldxZpy _ => 0xB6
  | .laxZpy _ => 0xB7
  | .clv => 0xB8
  | .ldaAby _ => 0xB9
  | .tsx => 0xBA
  | .unaAbyBB _ => 0xBB
  | .ldyAbx _ => 0xBC
  | .ldaAbx _ => 0xBD
  | .ldxAby _ => 0xBE
  | .laxAby _ => 0xBF
  | .cpyImm _ => 0xC0
  | .cmpIzx _ => 0xC1
  | .unopImmC2 _ => 0xC2
  | .dcpIzx _ => 0xC3
  | .cpyZp _ => 0xC4
  | .cmpZp _ => 0xC5
  | .decZp _ => 0xC6
  | .dcpZp _ => 0xC7
  | .iny => 0xC8
  | .cmpImm _ => 0xC9
  | .dex => 0xCA
  | .unaImmCB _ => 0xCB
  | .cpyAbs _ => 0xCC
  | .cmpAbs _ => 0xCD
  | .decAbs _ => 0xCE
  | .dcpAbs _ => 0xCF
  | .bne _ => 0xD0
  | .cmpIzy _ => 0xD1
  | .unaImpD2 => 0xD2
  | .dcpIzy _ => 0xD3
  | .unopZpxD4 _ => 0xD4
  | .cmpZpx _ => 0xD5
  | .decZpx _ => 0xD6
  | .dcpZpx _ => 0xD7
  | .cld => 0xD8
  | .cmpAby _ => 0xD9
  | .unopImpDA => 0xDA
  | .dcpAby _ => 0xDB
  | .unopAbxDC _ => 0xDC
  | .cmpAbx _ => 0xDD
  | .decAbx _ => 0xDE
  | .dcpAbx _ => 0xDF
  | .cpxImm _ => 0xE0
  | .sbcIzx _ => 0xE1
  | .unopImmE2 _ => 0xE2
  | .iscIzx _ => 0xE3
  | .cpxZp _ => 0xE4
  | .sbcZp _ => 0xE5
  | .incZp _ => 0xE6
  | .iscZp _ => 0xE7
  | .inx => 0xE8
  | .sbcImm _ => 0xE9
  | .nop => 0xEA
  | .usbcImm _ => 0xEB
  | .cpxAbs _ => 0xEC
  | .sbcAbs _ => 0xED
  | .incAbs _ => 0xEE
  | .iscAbs _ => 0xEF
  | .beq _ => 0xF0
  | .sbcIzy _ => 0xF1
  | .unaImpF2 => 0xF2
  | .iscIzy _ => 0xF3
  | .unopZpxF4 _ => 0xF4
  | .sbcZpx _ => 0xF5
  | .incZpx _ => 0xF6
  | .iscZpx _ => 0xF7
  | .sed => 0xF8
  | .sbcAby _ => 0xF9
  | .unopImpFA => 0xFA
  | .iscAby _ => 0xFB
  | .unopAbxFC _ => 0xFC
  | .sbcAbx _ => 0xFD
  | .incAbx _ => 0xFE
  | .iscAbx _ => 0xFF

/-- The operand bytes, at ascending addresses; the low byte of `abs16` first (R110, R132). -/
def Operand.bytes : Operand → List Byte
  | .imp | .acc => []
  | .imm b | .zp b | .zpx b | .zpy b | .izx b | .izy b | .rel b => [b]
  | .abs a | .abx a | .aby a | .ind a => [lo a, hi a]

/-- The bytes of an instruction (R130). -/
def encode (i : Instr) : List Byte := i.opcode :: i.operand.bytes

/-- `nbits` bits of `w` as three bytes, first byte = bits 7..0, bits above `nbits` 0. -/
def tableBytes (nbits w : Nat) : List Byte :=
  let v := w % 2 ^ nbits
  [BitVec.ofNat 8 v, BitVec.ofNat 8 (v / 256), BitVec.ofNat 8 (v / 65536)]

/-- The instruction the decoder reads from a word numbered as spec/opcode_table.json numbers it. -/
def decodeTableWord (nbits w : Nat) : Option Instr :=
  match decode (tableBytes nbits w) with
  | .ok (i, _) => some i
  | .error _ => none

/-- The operand byte of a branch at `branch` to `target` (R172): `target - (branch + 2)`, which
must lie in -128..127. -/
def relOperand (branch target : Word) : Option Byte :=
  let d : Word := target - (branch + 2)
  if sext16 (lo d) = d then some (lo d) else none

/-- `BASE_CYCLES`, one row a high nibble of the opcode (R131, R156). -/
def cycleMatrix : List (List Nat) := [
  [7, 6, 2, 8, 3, 3, 5, 5, 3, 2, 2, 2, 4, 4, 6, 6],
  [2, 5, 2, 8, 4, 4, 6, 6, 2, 4, 2, 7, 4, 4, 7, 7],
  [6, 6, 2, 8, 3, 3, 5, 5, 4, 2, 2, 2, 4, 4, 6, 6],
  [2, 5, 2, 8, 4, 4, 6, 6, 2, 4, 2, 7, 4, 4, 7, 7],
  [6, 6, 2, 8, 3, 3, 5, 5, 3, 2, 2, 2, 3, 4, 6, 6],
  [2, 5, 2, 8, 4, 4, 6, 6, 2, 4, 2, 7, 4, 4, 7, 7],
  [6, 6, 2, 8, 3, 3, 5, 5, 4, 2, 2, 2, 5, 4, 6, 6],
  [2, 5, 2, 8, 4, 4, 6, 6, 2, 4, 2, 7, 4, 4, 7, 7],
  [2, 6, 2, 6, 3, 3, 3, 3, 2, 2, 2, 2, 4, 4, 4, 4],
  [2, 6, 2, 5, 4, 4, 4, 4, 2, 5, 2, 4, 4, 5, 4, 4],
  [2, 6, 2, 6, 3, 3, 3, 3, 2, 2, 2, 2, 4, 4, 4, 4],
  [2, 5, 2, 5, 4, 4, 4, 4, 2, 4, 2, 4, 4, 4, 4, 4],
  [2, 6, 2, 8, 3, 3, 5, 5, 2, 2, 2, 2, 4, 4, 6, 6],
  [2, 5, 2, 8, 4, 4, 6, 6, 2, 4, 2, 7, 4, 4, 7, 7],
  [2, 6, 2, 8, 3, 3, 5, 5, 2, 2, 2, 2, 4, 4, 6, 6],
  [2, 5, 2, 8, 4, 4, 6, 6, 2, 4, 2, 7, 4, 4, 7, 7]]

/-- `BASE_CYCLES[op]` (R131). -/
def baseCycles (op : Byte) : Nat := (cycleMatrix.getD (op.toNat / 16) []).getD (op.toNat % 16) 0

/-- The opcodes with `PENALTY[op]`, the `+` marks of the matrix (R154, R156). -/
def penaltyOpcodes : List Byte :=
  [0x11, 0x19, 0x1C, 0x1D, 0x31, 0x39, 0x3C, 0x3D, 0x51, 0x59, 0x5C, 0x5D, 0x71, 0x79, 0x7C, 0x7D,
   0x93, 0x9B, 0x9C, 0x9E, 0x9F, 0xB1, 0xB3, 0xB9, 0xBB, 0xBC, 0xBD, 0xBE, 0xBF, 0xD1, 0xD9, 0xDC,
   0xDD, 0xF1, 0xF9, 0xFC, 0xFD]

/-- `PENALTY[op]` (R131, R154). -/
def pagePenalty (op : Byte) : Bool := penaltyOpcodes.contains op

end Sys2Proof
end

