-- ==== Sys2Proof/Machine/Flags.lean ====
section
/-! DEFINITION. The status byte `P` (spec/10_state.md R26 to R28) and every computation of flags and
result bytes (spec/41_arithmetic_logic.md, spec/42_shift_rotate.md). -/

namespace Sys2Proof.Machine

/-- The flags of `P`, in bit order (R26). -/
inductive Flag where
  | C | Z | I | D | B | U | V | N
deriving DecidableEq, Repr

/-- The bit position of a flag (R26). -/
def Flag.bit : Flag → Nat
  | .C => 0
  | .Z => 1
  | .I => 2
  | .D => 3
  | .B => 4
  | .U => 5
  | .V => 6
  | .N => 7

/-- The mask of a flag (R26). -/
def Flag.mask (f : Flag) : Byte := 1#8 <<< f.bit

/-- `P.<flag>` (R11). -/
def getFlag (f : Flag) (p : Byte) : Bool := p.getLsbD f.bit

/-- `P.<flag> <- b` (R11). -/
def putFlag (f : Flag) (b : Bool) (p : Byte) : Byte :=
  if b then p ||| f.mask else p &&& ~~~f.mask

/-- `setZN(v)` (R11): Z = (v == 0), N = v[7]. -/
def setZN (v p : Byte) : Byte := putFlag .N v.msb (putFlag .Z (v == 0) p)

/-- The byte `P` takes from a pulled byte: bits 5 and 4 ignored (R28). -/
def pulledP (m : Byte) : Byte := (m &&& 0xCF) ||| 0x20

/-- The copy of `P` that `PHP` and `BRK` push: B high (R28). -/
def pushedPHigh (p : Byte) : Byte := p ||| 0x30

/-- The copy of `P` that `IRQ` and `NMI` push: B low (R28). -/
def pushedPLow (p : Byte) : Byte := (p ||| 0x20) &&& 0xEF

/-- The 9-bit sum of `ADC` (R221) as an integer, 0..511. -/
def sum9 (a m : Byte) (c : Bool) : Nat := a.toNat + m.toNat + c.toNat

/-- The result byte of `ADC` (R221). -/
def adcByte (a m : Byte) (c : Bool) : Byte := BitVec.ofNat 8 (sum9 a m c)

/-- The overflow of `ADC` (R221): the operands have one sign and the result the other. -/
def adcOverflow (a m : Byte) (c : Bool) : Bool :=
  ((a ^^^ adcByte a m c) &&& (m ^^^ adcByte a m c)).msb

/-- The status byte after `ADC` (R221): C, V, Z, N; binary whatever D is (R224). -/
def adcFlags (a m p : Byte) : Byte :=
  let c := getFlag .C p
  setZN (adcByte a m c)
    (putFlag .V (adcOverflow a m c) (putFlag .C (decide (0xFF < sum9 a m c)) p))

/-- The status byte after a compare of register `r` with `m` (R228): C, Z, N. -/
def cmpFlags (r m p : Byte) : Byte :=
  setZN (r - m) (putFlag .C (decide (m.toNat ≤ r.toNat)) p)

/-- The status byte after `BIT` (R231): Z from the and, N and V from the operand. -/
def bitFlags (a m p : Byte) : Byte :=
  putFlag .V (m.getLsbD 6) (putFlag .N (m.getLsbD 7) (putFlag .Z (a &&& m == 0) p))

/-- A shift or rotate by one bit: the result byte and the carry out. -/
structure Shifted where
  r : Byte
  c : Bool
deriving DecidableEq, Repr

/-- `ASL` (R251). -/
def aslByte (v : Byte) : Shifted := ⟨v <<< 1, v.getLsbD 7⟩

/-- `LSR` (R252). -/
def lsrByte (v : Byte) : Shifted := ⟨v >>> 1, v.getLsbD 0⟩

/-- `ROL` (R253): the carry in at bit 0. -/
def rolByte (v : Byte) (c : Bool) : Shifted := ⟨(v <<< 1) ||| bitAt c 0, v.getLsbD 7⟩

/-- `ROR` (R254): the carry in at bit 7. -/
def rorByte (v : Byte) (c : Bool) : Shifted := ⟨(v >>> 1) ||| bitAt c 7, v.getLsbD 0⟩

end Sys2Proof.Machine
end

