-- ==== Sys2Proof/Machine/Operands.lean ====
section
/-! DEFINITION. Operand resolution (spec/30_encoding.md R140 to R154): the effective address of each of
the thirteen formats, with the pointer reads it performs, and the reading and writing of an
operand. The operand BYTES have been fetched before (`fetchInstr` in Machine/Schedule.lean): they
are the fields of the `Operand`. In every state here `pc` is the address of the opcode byte. -/

namespace Sys2Proof.Machine

/-- What `resolve(mode)` returns: the effective address, `crossed`, and the state after the pointer
reads. -/
structure Resolved where
  ea : Word
  crossed : Bool
  st : State

/-- Two bytes read as a pointer, low byte first (R12, R110). -/
structure Pointer where
  value : Word
  st : State

/-- `{Rd(ah), Rd(al)}`, the low byte read first. -/
def readPointer (al ah : Word) (s : State) : Pointer :=
  let s1 := afterRd al s
  ⟨word (peek ah s1) (peek al s), afterRd ah s1⟩

/-- `Rd16zp(z)` (R12): both bytes from page zero. -/
def readZpPointer (z : Byte) (s : State) : Pointer := readPointer (zext16 z) (zext16 (z + 1)) s

/-- A base address indexed by a register (R147, R148, R151): wraps modulo 2^16; `crossed` when the
high byte changes. -/
def indexed (base : Word) (index : Byte) (s : State) : Resolved :=
  let ea := base + zext16 index
  ⟨ea, hi ea != hi base, s⟩

/-- `resolve(mode)` (R140 to R152). Formats with no effective address answer 0. -/
def resolve (o : Operand) (s : State) : Resolved :=
  match o with
  | .imp | .acc => ⟨0, false, s⟩
  | .imm _ => ⟨s.pc + 1, false, s⟩
  | .zp z => ⟨zext16 z, false, s⟩
  | .zpx z => ⟨zext16 (z + s.x), false, s⟩
  | .zpy z => ⟨zext16 (z + s.y), false, s⟩
  | .abs w => ⟨w, false, s⟩
  | .abx w => indexed w s.x s
  | .aby w => indexed w s.y s
  | .ind w =>
    let q := readPointer w (word (hi w) (lo w + 1)) s
    ⟨q.value, false, q.st⟩
  | .izx z =>
    let q := readZpPointer (z + s.x) s
    ⟨q.value, false, q.st⟩
  | .izy z =>
    let q := readZpPointer z s
    indexed q.value s.y q.st
  | .rel r => ⟨s.pc + 2 + sext16 r, false, s⟩

/-- An operand that has been read: its value, its address, `crossed`, and the state after the
reads. -/
structure Fetched where
  value : Byte
  ea : Word
  crossed : Bool
  st : State

/-- Read the operand of an instruction: the accumulator (R141), the immediate byte, which the
operand fetch has read already (R142: one read, not two), or `Rd(ea)`. -/
def fetchOperand (o : Operand) (s : State) : Fetched :=
  match o with
  | .acc => ⟨s.a, 0, false, s⟩
  | .imm b => ⟨b, s.pc + 1, false, s⟩
  | o =>
    let r := resolve o s
    ⟨peek r.ea r.st, r.ea, r.crossed, afterRd r.ea r.st⟩

/-- Store the result of a read-modify-write where its operand came from (R250). -/
def storeOperand (o : Operand) (ea : Word) (v : Byte) (s : State) : State :=
  match o with
  | .acc => { s with a := v }
  | _ => wr ea v s

/-- The formats whose no-operations read memory (R315, R316). -/
def readsMemory : Operand → Bool
  | .zp _ | .zpx _ | .abs _ | .abx _ | .aby _ | .izy _ => true
  | .imp | .acc | .imm _ | .zpy _ | .ind _ | .izx _ | .rel _ => false

end Sys2Proof.Machine
end

