-- ==== Sys2Proof/Machine/Ops.lean ====
section
/-! DEFINITION. The named operations over registers and memory: the stack (spec/00_scope.md R12), the
templates of the instruction families, taking a trap as ONE operation (spec/60_exceptions.md R410)
and the return from one beside it (R265, R414), and the placing of an instruction for a fetch. -/

namespace Sys2Proof.Machine

/-! ### Registers -/

/-- The registers a load, transfer or compare names (R11). -/
inductive Reg where
  | A | X | Y
deriving DecidableEq, Repr

/-- The value of a register. -/
def State.reg (s : State) : Reg → Byte
  | .A => s.a
  | .X => s.x
  | .Y => s.y

/-- `r <- v` (R11). -/
def State.setReg (s : State) (r : Reg) (v : Byte) : State :=
  match r with
  | .A => { s with a := v }
  | .X => { s with x := v }
  | .Y => { s with y := v }

/-- `r <- v; setZN(v)`. -/
def State.loadReg (s : State) (r : Reg) (v : Byte) : State :=
  { s.setReg r v with p := setZN v s.p }

/-- `A, C, V, Z, N` as `ADC` with operand `m` (R221). -/
def State.adc (s : State) (m : Byte) : State :=
  { s with a := adcByte s.a m (getFlag .C s.p), p := adcFlags s.a m s.p }

/-- `A, C, V, Z, N` as `SBC` with operand `m`: `ADC` of the complement (R222). -/
def State.sbc (s : State) (m : Byte) : State := s.adc (m ^^^ 0xFF)

/-- `C, Z, N` as a compare of `r` with `m` (R228 to R230). -/
def State.compare (s : State) (r : Reg) (m : Byte) : State :=
  { s with p := cmpFlags (s.reg r) m s.p }

/-! ### The stack (R12, R24, R285) -/

/-- The address of the byte that the stack pointer names. -/
def stackAddr (sp : Byte) : Word := config.stackBase + zext16 sp

/-- `push(v)`. -/
def push (v : Byte) (s : State) : State :=
  { wr (stackAddr s.sp) v s with sp := s.sp - 1 }

/-- The byte `pull()` returns. -/
def pulled (s : State) : Byte := peek (stackAddr (s.sp + 1)) { s with sp := s.sp + 1 }

/-- The state after `pull()`. -/
def afterPull (s : State) : State := afterRd (stackAddr (s.sp + 1)) { s with sp := s.sp + 1 }

/-- `push16(w)`: high byte first. -/
def push16 (w : Word) (s : State) : State := push (lo w) (push (hi w) s)

/-- The word `pull16()` returns. -/
def pulled16 (s : State) : Word := word (pulled (afterPull s)) (pulled s)

/-- The state after `pull16()`. -/
def afterPull16 (s : State) : State := afterPull (afterPull s)

/-! ### Finishing an instruction (R25, R131) -/

/-- PC moves on by a length, `cyc` by a cost. -/
def advance (length cycles : Nat) (s : State) : State :=
  { s with pc := s.pc + BitVec.ofNat 16 length, cyc := s.cyc + cycles }

/-- `PC <- PCn` and the cycles of a non-branching instruction (R25, R131). -/
def retire (o : Operand) (cycles : Nat) (s : State) : State := advance o.length cycles s

/-- A control transfer ends by assigning PC (R260). -/
def retireTo (target : Word) (cycles : Nat) (s : State) : State :=
  { s with pc := target, cyc := s.cyc + cycles }

/-! ### Templates -/

/-- An instruction that reads one operand byte (R200, R220): `f` is what it does with the byte;
`penalty` is `PENALTY[op]`, one more cycle when the address crossed a page (R154). -/
def readInstr (o : Operand) (base : Nat) (penalty : Bool) (f : Byte → State → State)
    (s : State) : Result :=
  let r := fetchOperand o s
  .next (retire o (base + (penalty && r.crossed).toNat) (f r.value r.st))

/-- A store (R200): the value of the registers as they are before the pointer reads, `Wr(ea, v)`,
no data read, no penalty. -/
def storeInstr (o : Operand) (base : Nat) (v : State → Byte) (s : State) : Result :=
  let r := resolve o s
  .next (retire o base (wr r.ea (v s) r.st))

/-- A read-modify-write (R220, R250, R305): one read, one write of the result `f`, which also says
the carry, then `g` with the result byte. -/
def rmwInstr (o : Operand) (base : Nat) (f : Byte → State → Byte) (g : Byte → Byte → State → State)
    (s : State) : Result :=
  let r := fetchOperand o s
  let v := f r.value r.st
  .next (retire o base (g r.value v (storeOperand o r.ea v r.st)))

/-- An instruction with no operand (R140). -/
def impInstr (base : Nat) (f : State → State) (s : State) : Result :=
  .next (retire .imp base (f s))

/-- What a no-operation does with its resolved operand (R297, R315, R316): the memory formats read it
and discard it when `NOP_OPERAND_READ`. -/
def nopRead (o : Operand) (r : Resolved) : State :=
  if readsMemory o && config.nopOperandRead then afterRd r.ea r.st else r.st

/-- A no-operation (R297, R315). -/
def nopInstr (o : Operand) (base : Nat) (penalty : Bool) (s : State) : Result :=
  let r := resolve o s
  .next (retire o (base + (penalty && r.crossed).toNat) (nopRead o r))

/-- The read timing of a format (R157, R162). -/
def readTiming (o : Operand) : NopForm :=
  let form (cycles : Nat) (pageCross : Bool) : NopForm := ⟨o.length, cycles, pageCross⟩
  match o with
  | .imp | .acc | .imm _ | .rel _ => form 2 false
  | .zp _ => form 3 false
  | .zpx _ | .zpy _ | .abs _ => form 4 false
  | .abx _ | .aby _ => form 4 true
  | .ind _ => form 5 false
  | .izx _ => form 6 false
  | .izy _ => form 5 true

/-- The form an opcode byte outside `UNDOC_SET` runs in: its entry in `UNASSIGNED_FORM`, else the read
timing of the format its matrix position has (R162). -/
def unassignedFormOf (op : Byte) (o : Operand) : NopForm :=
  (config.unassignedForm.lookup op).getD (readTiming o)

/-- The fallback of an opcode byte outside `UNDOC_SET` (R162, R316): a no-operation with the length and
cycles of its form. -/
def unassignedInstr (op : Byte) (o : Operand) (s : State) : Result :=
  let r := resolve o s
  let form := unassignedFormOf op o
  .next (advance form.length (form.cycles + (form.pageCross && r.crossed).toNat) (nopRead o r))

/-- An undocumented opcode (R160, R162): its meaning if `UNDOC_SET` has it, else the fallback. -/
def undocInstr (op : Byte) (o : Operand) (meaning : State → Result) (s : State) : Result :=
  if config.undocSet.contains op then meaning s else unassignedInstr op o s

/-- The cycles a branch adds (R267): 1 if taken, 1 more if the target lies on another page than the
next instruction. -/
def branchExtra (taken : Bool) (target next : Word) : Nat :=
  if taken then 1 + (hi target != hi next).toNat else 0

/-- A conditional branch (R267). -/
def branchInstr (r : Byte) (taken : Bool) (s : State) : Result :=
  let target := (resolve (.rel r) s).ea
  let next := s.pc + 2
  .next (retireTo (if taken then target else next) (2 + branchExtra taken target next) s)

/-- The second half of a shift instruction: C, Z, N (R250). -/
def shiftFlags (c : Bool) (r : Byte) (s : State) : State :=
  { s with p := setZN r (putFlag .C c s.p) }

/-! ### Traps (R400 to R415) -/

/-- The trap events that push a frame (R402). -/
inductive TrapKind where
  | nmi | irq | brk
deriving DecidableEq, Repr

/-- The vector of an event (R402). -/
def TrapKind.vector : TrapKind → Word
  | .nmi => config.vecNmi
  | .irq | .brk => config.vecIrq

/-- The status byte an event pushes (R28, R410): B high for `BRK` only. -/
def TrapKind.pushedP (k : TrapKind) (p : Byte) : Byte :=
  match k with
  | .brk => pushedPHigh p
  | .nmi | .irq => pushedPLow p

/-- Taking a trap (R410): PC and P to the stack, I set, PC from the vector. `ret` is the address
pushed; `cycles` the cost. -/
def enterTrap (k : TrapKind) (ret : Word) (cycles : Nat) (s : State) : State :=
  let s1 := push (k.pushedP s.p) (push16 ret s)
  let s2 := { s1 with p := putFlag .I true s1.p }
  let q := readPointer k.vector (k.vector + 1) s2
  retireTo q.value cycles q.st

/-- Returning from a trap (R265, R414): P with bits 5 and 4 ignored, then PC. -/
def returnFromTrap (cycles : Nat) (s : State) : State :=
  let s1 := { afterPull s with p := pulledP (pulled s) }
  retireTo (pulled16 s1) cycles (afterPull16 s1)

/-! ### Interrupt lines (R30, R611) -/

/-- `irq_line` (R30, R407, R611). -/
def State.irqLine (s : State) : Bool := s.apu.irqLine

/-- The event a poll takes (R404, R409): `NMI` first, then `IRQ` if I is clear. -/
def poll (s : State) : Option TrapKind :=
  if s.nmiPending then some .nmi
  else if s.irqLine && !getFlag .I s.p then some .irq
  else none

/-- `interrupt(kind)` (R405, R410): taking `NMI` clears `nmi_pending` first. -/
def interrupt (k : TrapKind) (s : State) : State :=
  enterTrap k s.pc config.cycInterrupt
    { s with nmiPending := s.nmiPending && (k != .nmi) }

/-! ### Fetch (R130, R131) -/

/-- A fetched instruction and the state after its fetches. -/
structure FetchedInstr where
  instr : Instr
  st : State

/-- Fetch the instruction at PC (R130): the opcode, then its operand bytes, each with `Rd`, only as
many as the format has. -/
def fetchInstr (s : State) : FetchedInstr :=
  let s1 := afterRd s.pc s
  match opcodeForm (peek s.pc s) with
  | .none i => ⟨i, s1⟩
  | .byte i => ⟨i (peek (s.pc + 1) s1), afterRd (s.pc + 1) s1⟩
  | .word i =>
    let s2 := afterRd (s.pc + 1) s1
    ⟨i (word (peek (s.pc + 2) s2) (peek (s.pc + 1) s1)), afterRd (s.pc + 2) s2⟩

/-! ### Placing an instruction where the next fetch finds it -/

/-- The address is plain storage: what is put there is what `Rd` then returns. -/
def placeable (a : Word) (s : State) : Bool :=
  match readDest a with
  | .ram _ | .prgRom => true
  | .prgRam => (prgRamAnswering s.cart s.mapper).isSome
  | _ => false

/-- Put a byte into the storage behind a CPU address: work RAM, program RAM, or the byte of program
ROM that the current bank shows there. -/
def placeByte (a : Word) (b : Byte) (s : State) : State :=
  match readDest a with
  | .ram o => { s with ram := s.ram.set o b }
  | .prgRam => { s with cart := writePrgRam s.cart s.mapper a b }
  | .prgRom =>
    { s with cart := { s.cart with prgRom := s.cart.prgRom.set (prgOffset s.cart s.mapper a) b } }
  | _ => s

/-- Put bytes at ascending addresses. -/
def placeBytes : Word → List Byte → State → State
  | _, [], s => s
  | a, b :: bs, s => placeBytes (a + 1) bs (placeByte a b s)

/-- A PC whose next three bytes are plain storage: PC itself, else 0x0000 in work RAM. -/
def fetchablePc (s : State) : Word :=
  if placeable s.pc s && placeable (s.pc + 1) s && placeable (s.pc + 2) s then s.pc else 0x0000

/-- No interrupt stands before the next fetch: `nmi_pending` is withdrawn, and the audio unit's
requests are when the next poll would take them. -/
def quiet (s : State) : State :=
  if poll s = none then s
  else
    let s := { s with nmiPending := false }
    if poll s = none then s
    else { s with
      apu := { s.apu with frameIrq := false, dmc := { s.apu.dmc with dmcIrq := false } } }

end Sys2Proof.Machine
end

