-- ==== Sys2Proof/Machine/Control.lean ====
section
/-! DEFINITION. Jumps, calls, returns, the software interrupt and branches (spec/43_control_flow.md R260
to R276), one definition an opcode. -/

namespace Sys2Proof.Machine

/-- `JMP abs` (4C, JMP, R261). -/
def execJmpAbs (abs : Word) (s : State) : Result := .next (retireTo abs 3 s)

/-- `JMP (abs)` (6C, JMP, R261). -/
def execJmpInd (abs : Word) (s : State) : Result :=
  let q := resolve (.ind abs) s
  .next (retireTo q.ea 5 q.st)

/-- `JSR abs` (20, JSR, R263). -/
def execJsrAbs (abs : Word) (s : State) : Result := .next (retireTo abs 6 (push16 (s.pc + 2) s))

/-- `RTS` (60, RTS, R264). -/
def execRts (s : State) : Result := .next (retireTo (pulled16 s + 1) 6 (afterPull16 s))

/-- `RTI` (40, RTI, R265). -/
def execRti (s : State) : Result := .next (returnFromTrap 6 s)

/-- `BRK` (00, BRK, R266). -/
def execBrk (s : State) : Result := .next (enterTrap .brk (s.pc + 2) 7 s)

/-- `BCC rel` (90, BCC, R268). -/
def execBcc (rel : Byte) (s : State) : Result := branchInstr rel (!getFlag .C s.p) s

/-- `BCS rel` (B0, BCS, R269). -/
def execBcs (rel : Byte) (s : State) : Result := branchInstr rel (getFlag .C s.p) s

/-- `BEQ rel` (F0, BEQ, R270). -/
def execBeq (rel : Byte) (s : State) : Result := branchInstr rel (getFlag .Z s.p) s

/-- `BNE rel` (D0, BNE, R271). -/
def execBne (rel : Byte) (s : State) : Result := branchInstr rel (!getFlag .Z s.p) s

/-- `BMI rel` (30, BMI, R272). -/
def execBmi (rel : Byte) (s : State) : Result := branchInstr rel (getFlag .N s.p) s

/-- `BPL rel` (10, BPL, R273). -/
def execBpl (rel : Byte) (s : State) : Result := branchInstr rel (!getFlag .N s.p) s

/-- `BVC rel` (50, BVC, R274). -/
def execBvc (rel : Byte) (s : State) : Result := branchInstr rel (!getFlag .V s.p) s

/-- `BVS rel` (70, BVS, R275). -/
def execBvs (rel : Byte) (s : State) : Result := branchInstr rel (getFlag .V s.p) s

end Sys2Proof.Machine
end

