-- ==== Sys2Proof/Machine/LoadStore.lean ====
section
/-! DEFINITION. Load, store and register-transfer instructions (spec/40_load_store_transfer.md R200 to
R212), one definition an opcode. -/

namespace Sys2Proof.Machine

/-- `LDA (zp,X)` (A1, LDA, R201). -/
def execLdaIzx (zp : Byte) (s : State) : Result :=
  readInstr (.izx zp) 6 false (fun m s => s.loadReg .A m) s

/-- `LDA zp` (A5, LDA, R201). -/
def execLdaZp (zp : Byte) (s : State) : Result :=
  readInstr (.zp zp) 3 false (fun m s => s.loadReg .A m) s

/-- `LDA #imm` (A9, LDA, R201). -/
def execLdaImm (imm : Byte) (s : State) : Result :=
  readInstr (.imm imm) 2 false (fun m s => s.loadReg .A m) s

/-- `LDA abs` (AD, LDA, R201). -/
def execLdaAbs (abs : Word) (s : State) : Result :=
  readInstr (.abs abs) 4 false (fun m s => s.loadReg .A m) s

/-- `LDA (zp),Y` (B1, LDA, R201). -/
def execLdaIzy (zp : Byte) (s : State) : Result :=
  readInstr (.izy zp) 5 true (fun m s => s.loadReg .A m) s

/-- `LDA zp,X` (B5, LDA, R201). -/
def execLdaZpx (zp : Byte) (s : State) : Result :=
  readInstr (.zpx zp) 4 false (fun m s => s.loadReg .A m) s

/-- `LDA abs,Y` (B9, LDA, R201). -/
def execLdaAby (abs : Word) (s : State) : Result :=
  readInstr (.aby abs) 4 true (fun m s => s.loadReg .A m) s

/-- `LDA abs,X` (BD, LDA, R201). -/
def execLdaAbx (abs : Word) (s : State) : Result :=
  readInstr (.abx abs) 4 true (fun m s => s.loadReg .A m) s

/-- `LDX #imm` (A2, LDX, R202). -/
def execLdxImm (imm : Byte) (s : State) : Result :=
  readInstr (.imm imm) 2 false (fun m s => s.loadReg .X m) s

/-- `LDX zp` (A6, LDX, R202). -/
def execLdxZp (zp : Byte) (s : State) : Result :=
  readInstr (.zp zp) 3 false (fun m s => s.loadReg .X m) s

/-- `LDX abs` (AE, LDX, R202). -/
def execLdxAbs (abs : Word) (s : State) : Result :=
  readInstr (.abs abs) 4 false (fun m s => s.loadReg .X m) s

/-- `LDX zp,Y` (B6, LDX, R202). -/
def execLdxZpy (zp : Byte) (s : State) : Result :=
  readInstr (.zpy zp) 4 false (fun m s => s.loadReg .X m) s

/-- `LDX abs,Y` (BE, LDX, R202). -/
def execLdxAby (abs : Word) (s : State) : Result :=
  readInstr (.aby abs) 4 true (fun m s => s.loadReg .X m) s

/-- `LDY #imm` (A0, LDY, R203). -/
def execLdyImm (imm : Byte) (s : State) : Result :=
  readInstr (.imm imm) 2 false (fun m s => s.loadReg .Y m) s

/-- `LDY zp` (A4, LDY, R203). -/
def execLdyZp (zp : Byte) (s : State) : Result :=
  readInstr (.zp zp) 3 false (fun m s => s.loadReg .Y m) s

/-- `LDY abs` (AC, LDY, R203). -/
def execLdyAbs (abs : Word) (s : State) : Result :=
  readInstr (.abs abs) 4 false (fun m s => s.loadReg .Y m) s

/-- `LDY zp,X` (B4, LDY, R203). -/
def execLdyZpx (zp : Byte) (s : State) : Result :=
  readInstr (.zpx zp) 4 false (fun m s => s.loadReg .Y m) s

/-- `LDY abs,X` (BC, LDY, R203). -/
def execLdyAbx (abs : Word) (s : State) : Result :=
  readInstr (.abx abs) 4 true (fun m s => s.loadReg .Y m) s

/-- `STA (zp,X)` (81, STA, R204). -/
def execStaIzx (zp : Byte) (s : State) : Result := storeInstr (.izx zp) 6 State.a s

/-- `STA zp` (85, STA, R204). -/
def execStaZp (zp : Byte) (s : State) : Result := storeInstr (.zp zp) 3 State.a s

/-- `STA abs` (8D, STA, R204). -/
def execStaAbs (abs : Word) (s : State) : Result := storeInstr (.abs abs) 4 State.a s

/-- `STA (zp),Y` (91, STA, R204). -/
def execStaIzy (zp : Byte) (s : State) : Result := storeInstr (.izy zp) 6 State.a s

/-- `STA zp,X` (95, STA, R204). -/
def execStaZpx (zp : Byte) (s : State) : Result := storeInstr (.zpx zp) 4 State.a s

/-- `STA abs,Y` (99, STA, R204). -/
def execStaAby (abs : Word) (s : State) : Result := storeInstr (.aby abs) 5 State.a s

/-- `STA abs,X` (9D, STA, R204). -/
def execStaAbx (abs : Word) (s : State) : Result := storeInstr (.abx abs) 5 State.a s

/-- `STX zp` (86, STX, R205). -/
def execStxZp (zp : Byte) (s : State) : Result := storeInstr (.zp zp) 3 State.x s

/-- `STX abs` (8E, STX, R205). -/
def execStxAbs (abs : Word) (s : State) : Result := storeInstr (.abs abs) 4 State.x s

/-- `STX zp,Y` (96, STX, R205). -/
def execStxZpy (zp : Byte) (s : State) : Result := storeInstr (.zpy zp) 4 State.x s

/-- `STY zp` (84, STY, R206). -/
def execStyZp (zp : Byte) (s : State) : Result := storeInstr (.zp zp) 3 State.y s

/-- `STY abs` (8C, STY, R206). -/
def execStyAbs (abs : Word) (s : State) : Result := storeInstr (.abs abs) 4 State.y s

/-- `STY zp,X` (94, STY, R206). -/
def execStyZpx (zp : Byte) (s : State) : Result := storeInstr (.zpx zp) 4 State.y s

/-- `TAX` (AA, TAX, R207). -/
def execTax (s : State) : Result := impInstr 2 (fun s => s.loadReg .X s.a) s

/-- `TAY` (A8, TAY, R208). -/
def execTay (s : State) : Result := impInstr 2 (fun s => s.loadReg .Y s.a) s

/-- `TXA` (8A, TXA, R209). -/
def execTxa (s : State) : Result := impInstr 2 (fun s => s.loadReg .A s.x) s

/-- `TYA` (98, TYA, R210). -/
def execTya (s : State) : Result := impInstr 2 (fun s => s.loadReg .A s.y) s

/-- `TSX` (BA, TSX, R211). -/
def execTsx (s : State) : Result := impInstr 2 (fun s => s.loadReg .X s.sp) s

/-- `TXS` (9A, TXS, R212). -/
def execTxs (s : State) : Result := impInstr 2 (fun s => { s with sp := s.x }) s

end Sys2Proof.Machine
end

