-- ==== Sys2Proof/Machine/Stack.lean ====
section
/-! DEFINITION. Stack, flag and no-operation instructions (spec/44_stack_flags_nop.md R285 to R297), one
definition an opcode. -/

namespace Sys2Proof.Machine

/-- `PHA` (48, PHA, R286). -/
def execPha (s : State) : Result := impInstr 3 (fun s => push s.a s) s

/-- `PHP` (08, PHP, R287). -/
def execPhp (s : State) : Result := impInstr 3 (fun s => push (pushedPHigh s.p) s) s

/-- `PLA` (68, PLA, R288). -/
def execPla (s : State) : Result := impInstr 4 (fun s => (afterPull s).loadReg .A (pulled s)) s

/-- `PLP` (28, PLP, R289). -/
def execPlp (s : State) : Result :=
  impInstr 4 (fun s => { afterPull s with p := pulledP (pulled s) }) s

/-- `CLC` (18, CLC, R290). -/
def execClc (s : State) : Result := impInstr 2 (fun s => { s with p := putFlag .C false s.p }) s

/-- `SEC` (38, SEC, R291). -/
def execSec (s : State) : Result := impInstr 2 (fun s => { s with p := putFlag .C true s.p }) s

/-- `CLI` (58, CLI, R292). -/
def execCli (s : State) : Result := impInstr 2 (fun s => { s with p := putFlag .I false s.p }) s

/-- `SEI` (78, SEI, R293). -/
def execSei (s : State) : Result := impInstr 2 (fun s => { s with p := putFlag .I true s.p }) s

/-- `CLD` (D8, CLD, R294). -/
def execCld (s : State) : Result := impInstr 2 (fun s => { s with p := putFlag .D false s.p }) s

/-- `SED` (F8, SED, R295). -/
def execSed (s : State) : Result := impInstr 2 (fun s => { s with p := putFlag .D true s.p }) s

/-- `CLV` (B8, CLV, R296). -/
def execClv (s : State) : Result := impInstr 2 (fun s => { s with p := putFlag .V false s.p }) s

/-- `NOP` (EA, NOP, R297). -/
def execNop (s : State) : Result := nopInstr .imp 2 false s

end Sys2Proof.Machine
end

