-- ==== Sys2Proof/Machine/Arith.lean ====
section
/-! DEFINITION. Arithmetic, logic, compare, increment and decrement instructions
(spec/41_arithmetic_logic.md R220 to R239), one definition an opcode. -/

namespace Sys2Proof.Machine

/-- The flags of `BIT` (R231). -/
def bitTest (m : Byte) (s : State) : State := { s with p := bitFlags s.a m s.p }

/-- The byte `INC` writes (R232). -/
def incResult (m : Byte) (_ : State) : Byte := m + 1

/-- The byte `DEC` writes (R233). -/
def decResult (m : Byte) (_ : State) : Byte := m - 1

/-- The flags of `INC` and `DEC`: Z and N of the written byte (R232, R233). -/
def incFlags (_ r : Byte) (s : State) : State := { s with p := setZN r s.p }

/-- `ADC (zp,X)` (61, ADC, R221). -/
def execAdcIzx (zp : Byte) (s : State) : Result :=
  readInstr (.izx zp) 6 false (fun m s => s.adc m) s

/-- `ADC zp` (65, ADC, R221). -/
def execAdcZp (zp : Byte) (s : State) : Result := readInstr (.zp zp) 3 false (fun m s => s.adc m) s

/-- `ADC #imm` (69, ADC, R221). -/
def execAdcImm (imm : Byte) (s : State) : Result :=
  readInstr (.imm imm) 2 false (fun m s => s.adc m) s

/-- `ADC abs` (6D, ADC, R221). -/
def execAdcAbs (abs : Word) (s : State) : Result :=
  readInstr (.abs abs) 4 false (fun m s => s.adc m) s

/-- `ADC (zp),Y` (71, ADC, R221). -/
def execAdcIzy (zp : Byte) (s : State) : Result := readInstr (.izy zp) 5 true (fun m s => s.adc m) s

/-- `ADC zp,X` (75, ADC, R221). -/
def execAdcZpx (zp : Byte) (s : State) : Result :=
  readInstr (.zpx zp) 4 false (fun m s => s.adc m) s

/-- `ADC abs,Y` (79, ADC, R221). -/
def execAdcAby (abs : Word) (s : State) : Result :=
  readInstr (.aby abs) 4 true (fun m s => s.adc m) s

/-- `ADC abs,X` (7D, ADC, R221). -/
def execAdcAbx (abs : Word) (s : State) : Result :=
  readInstr (.abx abs) 4 true (fun m s => s.adc m) s

/-- `SBC (zp,X)` (E1, SBC, R222). -/
def execSbcIzx (zp : Byte) (s : State) : Result :=
  readInstr (.izx zp) 6 false (fun m s => s.sbc m) s

/-- `SBC zp` (E5, SBC, R222). -/
def execSbcZp (zp : Byte) (s : State) : Result := readInstr (.zp zp) 3 false (fun m s => s.sbc m) s

/-- `SBC #imm` (E9, SBC, R222). -/
def execSbcImm (imm : Byte) (s : State) : Result :=
  readInstr (.imm imm) 2 false (fun m s => s.sbc m) s

/-- `SBC abs` (ED, SBC, R222). -/
def execSbcAbs (abs : Word) (s : State) : Result :=
  readInstr (.abs abs) 4 false (fun m s => s.sbc m) s

/-- `SBC (zp),Y` (F1, SBC, R222). -/
def execSbcIzy (zp : Byte) (s : State) : Result := readInstr (.izy zp) 5 true (fun m s => s.sbc m) s

/-- `SBC zp,X` (F5, SBC, R222). -/
def execSbcZpx (zp : Byte) (s : State) : Result :=
  readInstr (.zpx zp) 4 false (fun m s => s.sbc m) s

/-- `SBC abs,Y` (F9, SBC, R222). -/
def execSbcAby (abs : Word) (s : State) : Result :=
  readInstr (.aby abs) 4 true (fun m s => s.sbc m) s

/-- `SBC abs,X` (FD, SBC, R222). -/
def execSbcAbx (abs : Word) (s : State) : Result :=
  readInstr (.abx abs) 4 true (fun m s => s.sbc m) s

/-- `AND (zp,X)` (21, AND, R225). -/
def execAndIzx (zp : Byte) (s : State) : Result :=
  readInstr (.izx zp) 6 false (fun m s => s.loadReg .A (s.a &&& m)) s

/-- `AND zp` (25, AND, R225). -/
def execAndZp (zp : Byte) (s : State) : Result :=
  readInstr (.zp zp) 3 false (fun m s => s.loadReg .A (s.a &&& m)) s

/-- `AND #imm` (29, AND, R225). -/
def execAndImm (imm : Byte) (s : State) : Result :=
  readInstr (.imm imm) 2 false (fun m s => s.loadReg .A (s.a &&& m)) s

/-- `AND abs` (2D, AND, R225). -/
def execAndAbs (abs : Word) (s : State) : Result :=
  readInstr (.abs abs) 4 false (fun m s => s.loadReg .A (s.a &&& m)) s

/-- `AND (zp),Y` (31, AND, R225). -/
def execAndIzy (zp : Byte) (s : State) : Result :=
  readInstr (.izy zp) 5 true (fun m s => s.loadReg .A (s.a &&& m)) s

/-- `AND zp,X` (35, AND, R225). -/
def execAndZpx (zp : Byte) (s : State) : Result :=
  readInstr (.zpx zp) 4 false (fun m s => s.loadReg .A (s.a &&& m)) s

/-- `AND abs,Y` (39, AND, R225). -/
def execAndAby (abs : Word) (s : State) : Result :=
  readInstr (.aby abs) 4 true (fun m s => s.loadReg .A (s.a &&& m)) s

/-- `AND abs,X` (3D, AND, R225). -/
def execAndAbx (abs : Word) (s : State) : Result :=
  readInstr (.abx abs) 4 true (fun m s => s.loadReg .A (s.a &&& m)) s

/-- `ORA (zp,X)` (01, ORA, R226). -/
def execOraIzx (zp : Byte) (s : State) : Result :=
  readInstr (.izx zp) 6 false (fun m s => s.loadReg .A (s.a ||| m)) s

/-- `ORA zp` (05, ORA, R226). -/
def execOraZp (zp : Byte) (s : State) : Result :=
  readInstr (.zp zp) 3 false (fun m s => s.loadReg .A (s.a ||| m)) s

/-- `ORA #imm` (09, ORA, R226). -/
def execOraImm (imm : Byte) (s : State) : Result :=
  readInstr (.imm imm) 2 false (fun m s => s.loadReg .A (s.a ||| m)) s

/-- `ORA abs` (0D, ORA, R226). -/
def execOraAbs (abs : Word) (s : State) : Result :=
  readInstr (.abs abs) 4 false (fun m s => s.loadReg .A (s.a ||| m)) s

/-- `ORA (zp),Y` (11, ORA, R226). -/
def execOraIzy (zp : Byte) (s : State) : Result :=
  readInstr (.izy zp) 5 true (fun m s => s.loadReg .A (s.a ||| m)) s

/-- `ORA zp,X` (15, ORA, R226). -/
def execOraZpx (zp : Byte) (s : State) : Result :=
  readInstr (.zpx zp) 4 false (fun m s => s.loadReg .A (s.a ||| m)) s

/-- `ORA abs,Y` (19, ORA, R226). -/
def execOraAby (abs : Word) (s : State) : Result :=
  readInstr (.aby abs) 4 true (fun m s => s.loadReg .A (s.a ||| m)) s

/-- `ORA abs,X` (1D, ORA, R226). -/
def execOraAbx (abs : Word) (s : State) : Result :=
  readInstr (.abx abs) 4 true (fun m s => s.loadReg .A (s.a ||| m)) s

/-- `EOR (zp,X)` (41, EOR, R227). -/
def execEorIzx (zp : Byte) (s : State) : Result :=
  readInstr (.izx zp) 6 false (fun m s => s.loadReg .A (s.a ^^^ m)) s

/-- `EOR zp` (45, EOR, R227). -/
def execEorZp (zp : Byte) (s : State) : Result :=
  readInstr (.zp zp) 3 false (fun m s => s.loadReg .A (s.a ^^^ m)) s

/-- `EOR #imm` (49, EOR, R227). -/
def execEorImm (imm : Byte) (s : State) : Result :=
  readInstr (.imm imm) 2 false (fun m s => s.loadReg .A (s.a ^^^ m)) s

/-- `EOR abs` (4D, EOR, R227). -/
def execEorAbs (abs : Word) (s : State) : Result :=
  readInstr (.abs abs) 4 false (fun m s => s.loadReg .A (s.a ^^^ m)) s

/-- `EOR (zp),Y` (51, EOR, R227). -/
def execEorIzy (zp : Byte) (s : State) : Result :=
  readInstr (.izy zp) 5 true (fun m s => s.loadReg .A (s.a ^^^ m)) s

/-- `EOR zp,X` (55, EOR, R227). -/
def execEorZpx (zp : Byte) (s : State) : Result :=
  readInstr (.zpx zp) 4 false (fun m s => s.loadReg .A (s.a ^^^ m)) s

/-- `EOR abs,Y` (59, EOR, R227). -/
def execEorAby (abs : Word) (s : State) : Result :=
  readInstr (.aby abs) 4 true (fun m s => s.loadReg .A (s.a ^^^ m)) s

/-- `EOR abs,X` (5D, EOR, R227). -/
def execEorAbx (abs : Word) (s : State) : Result :=
  readInstr (.abx abs) 4 true (fun m s => s.loadReg .A (s.a ^^^ m)) s

/-- `CMP (zp,X)` (C1, CMP, R228). -/
def execCmpIzx (zp : Byte) (s : State) : Result :=
  readInstr (.izx zp) 6 false (fun m s => s.compare .A m) s

/-- `CMP zp` (C5, CMP, R228). -/
def execCmpZp (zp : Byte) (s : State) : Result :=
  readInstr (.zp zp) 3 false (fun m s => s.compare .A m) s

/-- `CMP #imm` (C9, CMP, R228). -/
def execCmpImm (imm : Byte) (s : State) : Result :=
  readInstr (.imm imm) 2 false (fun m s => s.compare .A m) s

/-- `CMP abs` (CD, CMP, R228). -/
def execCmpAbs (abs : Word) (s : State) : Result :=
  readInstr (.abs abs) 4 false (fun m s => s.compare .A m) s

/-- `CMP (zp),Y` (D1, CMP, R228). -/
def execCmpIzy (zp : Byte) (s : State) : Result :=
  readInstr (.izy zp) 5 true (fun m s => s.compare .A m) s

/-- `CMP zp,X` (D5, CMP, R228). -/
def execCmpZpx (zp : Byte) (s : State) : Result :=
  readInstr (.zpx zp) 4 false (fun m s => s.compare .A m) s

/-- `CMP abs,Y` (D9, CMP, R228). -/
def execCmpAby (abs : Word) (s : State) : Result :=
  readInstr (.aby abs) 4 true (fun m s => s.compare .A m) s

/-- `CMP abs,X` (DD, CMP, R228). -/
def execCmpAbx (abs : Word) (s : State) : Result :=
  readInstr (.abx abs) 4 true (fun m s => s.compare .A m) s

/-- `CPX #imm` (E0, CPX, R229). -/
def execCpxImm (imm : Byte) (s : State) : Result :=
  readInstr (.imm imm) 2 false (fun m s => s.compare .X m) s

/-- `CPX zp` (E4, CPX, R229). -/
def execCpxZp (zp : Byte) (s : State) : Result :=
  readInstr (.zp zp) 3 false (fun m s => s.compare .X m) s

/-- `CPX abs` (EC, CPX, R229). -/
def execCpxAbs (abs : Word) (s : State) : Result :=
  readInstr (.abs abs) 4 false (fun m s => s.compare .X m) s

/-- `CPY #imm` (C0, CPY, R230). -/
def execCpyImm (imm : Byte) (s : State) : Result :=
  readInstr (.imm imm) 2 false (fun m s => s.compare .Y m) s

/-- `CPY zp` (C4, CPY, R230). -/
def execCpyZp (zp : Byte) (s : State) : Result :=
  readInstr (.zp zp) 3 false (fun m s => s.compare .Y m) s

/-- `CPY abs` (CC, CPY, R230). -/
def execCpyAbs (abs : Word) (s : State) : Result :=
  readInstr (.abs abs) 4 false (fun m s => s.compare .Y m) s

/-- `BIT zp` (24, BIT, R231). -/
def execBitZp (zp : Byte) (s : State) : Result := readInstr (.zp zp) 3 false bitTest s

/-- `BIT abs` (2C, BIT, R231). -/
def execBitAbs (abs : Word) (s : State) : Result := readInstr (.abs abs) 4 false bitTest s

/-- `INC zp` (E6, INC, R232). -/
def execIncZp (zp : Byte) (s : State) : Result := rmwInstr (.zp zp) 5 incResult incFlags s

/-- `INC abs` (EE, INC, R232). -/
def execIncAbs (abs : Word) (s : State) : Result := rmwInstr (.abs abs) 6 incResult incFlags s

/-- `INC zp,X` (F6, INC, R232). -/
def execIncZpx (zp : Byte) (s : State) : Result := rmwInstr (.zpx zp) 6 incResult incFlags s

/-- `INC abs,X` (FE, INC, R232). -/
def execIncAbx (abs : Word) (s : State) : Result := rmwInstr (.abx abs) 7 incResult incFlags s

/-- `DEC zp` (C6, DEC, R233). -/
def execDecZp (zp : Byte) (s : State) : Result := rmwInstr (.zp zp) 5 decResult incFlags s

/-- `DEC abs` (CE, DEC, R233). -/
def execDecAbs (abs : Word) (s : State) : Result := rmwInstr (.abs abs) 6 decResult incFlags s

/-- `DEC zp,X` (D6, DEC, R233). -/
def execDecZpx (zp : Byte) (s : State) : Result := rmwInstr (.zpx zp) 6 decResult incFlags s

/-- `DEC abs,X` (DE, DEC, R233). -/
def execDecAbx (abs : Word) (s : State) : Result := rmwInstr (.abx abs) 7 decResult incFlags s

/-- `INX` (E8, INX, R234). -/
def execInx (s : State) : Result := impInstr 2 (fun s => s.loadReg .X (s.x + 1)) s

/-- `INY` (C8, INY, R235). -/
def execIny (s : State) : Result := impInstr 2 (fun s => s.loadReg .Y (s.y + 1)) s

/-- `DEX` (CA, DEX, R236). -/
def execDex (s : State) : Result := impInstr 2 (fun s => s.loadReg .X (s.x - 1)) s

/-- `DEY` (88, DEY, R237). -/
def execDey (s : State) : Result := impInstr 2 (fun s => s.loadReg .Y (s.y - 1)) s

end Sys2Proof.Machine
end

