-- ==== Sys2Proof/Machine/Shift.lean ====
section
/-! DEFINITION. Shift and rotate instructions (spec/42_shift_rotate.md R250 to R254), one definition an
opcode. `<name>Result` is the byte that goes back to the operand, `<name>Flags` the carry from the
old byte with Z and N of the new one. -/

namespace Sys2Proof.Machine

/-- R251. -/
def aslResult (v : Byte) (_ : State) : Byte := (aslByte v).r
/-- R251. -/
def aslFlags (v r : Byte) (s : State) : State := shiftFlags (aslByte v).c r s

/-- R252. -/
def lsrResult (v : Byte) (_ : State) : Byte := (lsrByte v).r
/-- R252. -/
def lsrFlags (v r : Byte) (s : State) : State := shiftFlags (lsrByte v).c r s

/-- R253. -/
def rolResult (v : Byte) (s : State) : Byte := (rolByte v (getFlag .C s.p)).r
/-- R253. -/
def rolFlags (v r : Byte) (s : State) : State := shiftFlags (rolByte v (getFlag .C s.p)).c r s

/-- R254. -/
def rorResult (v : Byte) (s : State) : Byte := (rorByte v (getFlag .C s.p)).r
/-- R254. -/
def rorFlags (v r : Byte) (s : State) : State := shiftFlags (rorByte v (getFlag .C s.p)).c r s

/-- `ASL zp` (06, ASL, R251). -/
def execAslZp (zp : Byte) (s : State) : Result := rmwInstr (.zp zp) 5 aslResult aslFlags s

/-- `ASL A` (0A, ASL, R251). -/
def execAslAcc (s : State) : Result := rmwInstr .acc 2 aslResult aslFlags s

/-- `ASL abs` (0E, ASL, R251). -/
def execAslAbs (abs : Word) (s : State) : Result := rmwInstr (.abs abs) 6 aslResult aslFlags s

/-- `ASL zp,X` (16, ASL, R251). -/
def execAslZpx (zp : Byte) (s : State) : Result := rmwInstr (.zpx zp) 6 aslResult aslFlags s

/-- `ASL abs,X` (1E, ASL, R251). -/
def execAslAbx (abs : Word) (s : State) : Result := rmwInstr (.abx abs) 7 aslResult aslFlags s

/-- `LSR zp` (46, LSR, R252). -/
def execLsrZp (zp : Byte) (s : State) : Result := rmwInstr (.zp zp) 5 lsrResult lsrFlags s

/-- `LSR A` (4A, LSR, R252). -/
def execLsrAcc (s : State) : Result := rmwInstr .acc 2 lsrResult lsrFlags s

/-- `LSR abs` (4E, LSR, R252). -/
def execLsrAbs (abs : Word) (s : State) : Result := rmwInstr (.abs abs) 6 lsrResult lsrFlags s

/-- `LSR zp,X` (56, LSR, R252). -/
def execLsrZpx (zp : Byte) (s : State) : Result := rmwInstr (.zpx zp) 6 lsrResult lsrFlags s

/-- `LSR abs,X` (5E, LSR, R252). -/
def execLsrAbx (abs : Word) (s : State) : Result := rmwInstr (.abx abs) 7 lsrResult lsrFlags s

/-- `ROL zp` (26, ROL, R253). -/
def execRolZp (zp : Byte) (s : State) : Result := rmwInstr (.zp zp) 5 rolResult rolFlags s

/-- `ROL A` (2A, ROL, R253). -/
def execRolAcc (s : State) : Result := rmwInstr .acc 2 rolResult rolFlags s

/-- `ROL abs` (2E, ROL, R253). -/
def execRolAbs (abs : Word) (s : State) : Result := rmwInstr (.abs abs) 6 rolResult rolFlags s

/-- `ROL zp,X` (36, ROL, R253). -/
def execRolZpx (zp : Byte) (s : State) : Result := rmwInstr (.zpx zp) 6 rolResult rolFlags s

/-- `ROL abs,X` (3E, ROL, R253). -/
def execRolAbx (abs : Word) (s : State) : Result := rmwInstr (.abx abs) 7 rolResult rolFlags s

/-- `ROR zp` (66, ROR, R254). -/
def execRorZp (zp : Byte) (s : State) : Result := rmwInstr (.zp zp) 5 rorResult rorFlags s

/-- `ROR A` (6A, ROR, R254). -/
def execRorAcc (s : State) : Result := rmwInstr .acc 2 rorResult rorFlags s

/-- `ROR abs` (6E, ROR, R254). -/
def execRorAbs (abs : Word) (s : State) : Result := rmwInstr (.abs abs) 6 rorResult rorFlags s

/-- `ROR zp,X` (76, ROR, R254). -/
def execRorZpx (zp : Byte) (s : State) : Result := rmwInstr (.zpx zp) 6 rorResult rorFlags s

/-- `ROR abs,X` (7E, ROR, R254). -/
def execRorAbx (abs : Word) (s : State) : Result := rmwInstr (.abx abs) 7 rorResult rorFlags s

end Sys2Proof.Machine
end

