-- ==== Sys2Proof/Machine/Undocumented.lean ====
section
/-! DEFINITION. The undocumented instructions and the unassigned-opcode fallback
(spec/45_undocumented.md R305 to R317), one definition an opcode. `undocInstr` and
`unassignedInstr` (Machine/Ops.lean) consult the parameters `UNDOC_SET` and `UNASSIGNED_FORM`. -/

namespace Sys2Proof.Machine

/-- `A <- M; X <- M; setZN(M)` (R306). -/
def loadAX (m : Byte) (s : State) : State := { s with a := m, x := m, p := setZN m s.p }

/-- The accumulator half of `DCP`: `CMP` with the written byte (R308). -/
def dcpFlags (_ r : Byte) (s : State) : State := s.compare .A r

/-- The accumulator half of `ISC`: `SBC` of the written byte (R309). -/
def iscAcc (_ r : Byte) (s : State) : State := s.sbc r

/-- The accumulator half of `SLO`: C from the shift, then `ORA` (R310). -/
def sloAcc (v r : Byte) (s : State) : State :=
  { s with p := putFlag .C (aslByte v).c s.p }.loadReg .A (s.a ||| r)

/-- The accumulator half of `RLA`: C from the rotate, then `AND` (R311). -/
def rlaAcc (v r : Byte) (s : State) : State :=
  { s with p := putFlag .C (rolByte v (getFlag .C s.p)).c s.p }.loadReg .A (s.a &&& r)

/-- The accumulator half of `SRE`: C from the shift, then `EOR` (R312). -/
def sreAcc (v r : Byte) (s : State) : State :=
  { s with p := putFlag .C (lsrByte v).c s.p }.loadReg .A (s.a ^^^ r)

/-- The accumulator half of `RRA`: C from the rotate, then `ADC` with that carry (R313). -/
def rraAcc (v r : Byte) (s : State) : State :=
  { s with p := putFlag .C (rorByte v (getFlag .C s.p)).c s.p }.adc r

/-- `LAX (zp,X)` (A3, LAX, R306). -/
def execLaxIzx (zp : Byte) (s : State) : Result :=
  undocInstr 0xA3 (.izx zp) (readInstr (.izx zp) 6 false loadAX) s

/-- `LAX zp` (A7, LAX, R306). -/
def execLaxZp (zp : Byte) (s : State) : Result :=
  undocInstr 0xA7 (.zp zp) (readInstr (.zp zp) 3 false loadAX) s

/-- `LAX abs` (AF, LAX, R306). -/
def execLaxAbs (abs : Word) (s : State) : Result :=
  undocInstr 0xAF (.abs abs) (readInstr (.abs abs) 4 false loadAX) s

/-- `LAX (zp),Y` (B3, LAX, R306). -/
def execLaxIzy (zp : Byte) (s : State) : Result :=
  undocInstr 0xB3 (.izy zp) (readInstr (.izy zp) 5 true loadAX) s

/-- `LAX zp,Y` (B7, LAX, R306). -/
def execLaxZpy (zp : Byte) (s : State) : Result :=
  undocInstr 0xB7 (.zpy zp) (readInstr (.zpy zp) 4 false loadAX) s

/-- `LAX abs,Y` (BF, LAX, R306). -/
def execLaxAby (abs : Word) (s : State) : Result :=
  undocInstr 0xBF (.aby abs) (readInstr (.aby abs) 4 true loadAX) s

/-- `SAX (zp,X)` (83, SAX, R307). -/
def execSaxIzx (zp : Byte) (s : State) : Result :=
  undocInstr 0x83 (.izx zp) (storeInstr (.izx zp) 6 (fun s => s.a &&& s.x)) s

/-- `SAX zp` (87, SAX, R307). -/
def execSaxZp (zp : Byte) (s : State) : Result :=
  undocInstr 0x87 (.zp zp) (storeInstr (.zp zp) 3 (fun s => s.a &&& s.x)) s

/-- `SAX abs` (8F, SAX, R307). -/
def execSaxAbs (abs : Word) (s : State) : Result :=
  undocInstr 0x8F (.abs abs) (storeInstr (.abs abs) 4 (fun s => s.a &&& s.x)) s

/-- `SAX zp,Y` (97, SAX, R307). -/
def execSaxZpy (zp : Byte) (s : State) : Result :=
  undocInstr 0x97 (.zpy zp) (storeInstr (.zpy zp) 4 (fun s => s.a &&& s.x)) s

/-- `DCP (zp,X)` (C3, DCP, R308). -/
def execDcpIzx (zp : Byte) (s : State) : Result :=
  undocInstr 0xC3 (.izx zp) (rmwInstr (.izx zp) 8 decResult dcpFlags) s

/-- `DCP zp` (C7, DCP, R308). -/
def execDcpZp (zp : Byte) (s : State) : Result :=
  undocInstr 0xC7 (.zp zp) (rmwInstr (.zp zp) 5 decResult dcpFlags) s

/-- `DCP abs` (CF, DCP, R308). -/
def execDcpAbs (abs : Word) (s : State) : Result :=
  undocInstr 0xCF (.abs abs) (rmwInstr (.abs abs) 6 decResult dcpFlags) s

/-- `DCP (zp),Y` (D3, DCP, R308). -/
def execDcpIzy (zp : Byte) (s : State) : Result :=
  undocInstr 0xD3 (.izy zp) (rmwInstr (.izy zp) 8 decResult dcpFlags) s

/-- `DCP zp,X` (D7, DCP, R308). -/
def execDcpZpx (zp : Byte) (s : State) : Result :=
  undocInstr 0xD7 (.zpx zp) (rmwInstr (.zpx zp) 6 decResult dcpFlags) s

/-- `DCP abs,Y` (DB, DCP, R308). -/
def execDcpAby (abs : Word) (s : State) : Result :=
  undocInstr 0xDB (.aby abs) (rmwInstr (.aby abs) 7 decResult dcpFlags) s

/-- `DCP abs,X` (DF, DCP, R308). -/
def execDcpAbx (abs : Word) (s : State) : Result :=
  undocInstr 0xDF (.abx abs) (rmwInstr (.abx abs) 7 decResult dcpFlags) s

/-- `ISC (zp,X)` (E3, ISC, R309). -/
def execIscIzx (zp : Byte) (s : State) : Result :=
  undocInstr 0xE3 (.izx zp) (rmwInstr (.izx zp) 8 incResult iscAcc) s

/-- `ISC zp` (E7, ISC, R309). -/
def execIscZp (zp : Byte) (s : State) : Result :=
  undocInstr 0xE7 (.zp zp) (rmwInstr (.zp zp) 5 incResult iscAcc) s

/-- `ISC abs` (EF, ISC, R309). -/
def execIscAbs (abs : Word) (s : State) : Result :=
  undocInstr 0xEF (.abs abs) (rmwInstr (.abs abs) 6 incResult iscAcc) s

/-- `ISC (zp),Y` (F3, ISC, R309). -/
def execIscIzy (zp : Byte) (s : State) : Result :=
  undocInstr 0xF3 (.izy zp) (rmwInstr (.izy zp) 8 incResult iscAcc) s

/-- `ISC zp,X` (F7, ISC, R309). -/
def execIscZpx (zp : Byte) (s : State) : Result :=
  undocInstr 0xF7 (.zpx zp) (rmwInstr (.zpx zp) 6 incResult iscAcc) s

/-- `ISC abs,Y` (FB, ISC, R309). -/
def execIscAby (abs : Word) (s : State) : Result :=
  undocInstr 0xFB (.aby abs) (rmwInstr (.aby abs) 7 incResult iscAcc) s

/-- `ISC abs,X` (FF, ISC, R309). -/
def execIscAbx (abs : Word) (s : State) : Result :=
  undocInstr 0xFF (.abx abs) (rmwInstr (.abx abs) 7 incResult iscAcc) s

/-- `SLO (zp,X)` (03, SLO, R310). -/
def execSloIzx (zp : Byte) (s : State) : Result :=
  undocInstr 0x03 (.izx zp) (rmwInstr (.izx zp) 8 aslResult sloAcc) s

/-- `SLO zp` (07, SLO, R310). -/
def execSloZp (zp : Byte) (s : State) : Result :=
  undocInstr 0x07 (.zp zp) (rmwInstr (.zp zp) 5 aslResult sloAcc) s

/-- `SLO abs` (0F, SLO, R310). -/
def execSloAbs (abs : Word) (s : State) : Result :=
  undocInstr 0x0F (.abs abs) (rmwInstr (.abs abs) 6 aslResult sloAcc) s

/-- `SLO (zp),Y` (13, SLO, R310). -/
def execSloIzy (zp : Byte) (s : State) : Result :=
  undocInstr 0x13 (.izy zp) (rmwInstr (.izy zp) 8 aslResult sloAcc) s

/-- `SLO zp,X` (17, SLO, R310). -/
def execSloZpx (zp : Byte) (s : State) : Result :=
  undocInstr 0x17 (.zpx zp) (rmwInstr (.zpx zp) 6 aslResult sloAcc) s

/-- `SLO abs,Y` (1B, SLO, R310). -/
def execSloAby (abs : Word) (s : State) : Result :=
  undocInstr 0x1B (.aby abs) (rmwInstr (.aby abs) 7 aslResult sloAcc) s

/-- `SLO abs,X` (1F, SLO, R310). -/
def execSloAbx (abs : Word) (s : State) : Result :=
  undocInstr 0x1F (.abx abs) (rmwInstr (.abx abs) 7 aslResult sloAcc) s

/-- `RLA (zp,X)` (23, RLA, R311). -/
def execRlaIzx (zp : Byte) (s : State) : Result :=
  undocInstr 0x23 (.izx zp) (rmwInstr (.izx zp) 8 rolResult rlaAcc) s

/-- `RLA zp` (27, RLA, R311). -/
def execRlaZp (zp : Byte) (s : State) : Result :=
  undocInstr 0x27 (.zp zp) (rmwInstr (.zp zp) 5 rolResult rlaAcc) s

/-- `RLA abs` (2F, RLA, R311). -/
def execRlaAbs (abs : Word) (s : State) : Result :=
  undocInstr 0x2F (.abs abs) (rmwInstr (.abs abs) 6 rolResult rlaAcc) s

/-- `RLA (zp),Y` (33, RLA, R311). -/
def execRlaIzy (zp : Byte) (s : State) : Result :=
  undocInstr 0x33 (.izy zp) (rmwInstr (.izy zp) 8 rolResult rlaAcc) s

/-- `RLA zp,X` (37, RLA, R311). -/
def execRlaZpx (zp : Byte) (s : State) : Result :=
  undocInstr 0x37 (.zpx zp) (rmwInstr (.zpx zp) 6 rolResult rlaAcc) s

/-- `RLA abs,Y` (3B, RLA, R311). -/
def execRlaAby (abs : Word) (s : State) : Result :=
  undocInstr 0x3B (.aby abs) (rmwInstr (.aby abs) 7 rolResult rlaAcc) s

/-- `RLA abs,X` (3F, RLA, R311). -/
def execRlaAbx (abs : Word) (s : State) : Result :=
  undocInstr 0x3F (.abx abs) (rmwInstr (.abx abs) 7 rolResult rlaAcc) s

/-- `SRE (zp,X)` (43, SRE, R312). -/
def execSreIzx (zp : Byte) (s : State) : Result :=
  undocInstr 0x43 (.izx zp) (rmwInstr (.izx zp) 8 lsrResult sreAcc) s

/-- `SRE zp` (47, SRE, R312). -/
def execSreZp (zp : Byte) (s : State) : Result :=
  undocInstr 0x47 (.zp zp) (rmwInstr (.zp zp) 5 lsrResult sreAcc) s

/-- `SRE abs` (4F, SRE, R312). -/
def execSreAbs (abs : Word) (s : State) : Result :=
  undocInstr 0x4F (.abs abs) (rmwInstr (.abs abs) 6 lsrResult sreAcc) s

/-- `SRE (zp),Y` (53, SRE, R312). -/
def execSreIzy (zp : Byte) (s : State) : Result :=
  undocInstr 0x53 (.izy zp) (rmwInstr (.izy zp) 8 lsrResult sreAcc) s

/-- `SRE zp,X` (57, SRE, R312). -/
def execSreZpx (zp : Byte) (s : State) : Result :=
  undocInstr 0x57 (.zpx zp) (rmwInstr (.zpx zp) 6 lsrResult sreAcc) s

/-- `SRE abs,Y` (5B, SRE, R312). -/
def execSreAby (abs : Word) (s : State) : Result :=
  undocInstr 0x5B (.aby abs) (rmwInstr (.aby abs) 7 lsrResult sreAcc) s

/-- `SRE abs,X` (5F, SRE, R312). -/
def execSreAbx (abs : Word) (s : State) : Result :=
  undocInstr 0x5F (.abx abs) (rmwInstr (.abx abs) 7 lsrResult sreAcc) s

/-- `RRA (zp,X)` (63, RRA, R313). -/
def execRraIzx (zp : Byte) (s : State) : Result :=
  undocInstr 0x63 (.izx zp) (rmwInstr (.izx zp) 8 rorResult rraAcc) s

/-- `RRA zp` (67, RRA, R313). -/
def execRraZp (zp : Byte) (s : State) : Result :=
  undocInstr 0x67 (.zp zp) (rmwInstr (.zp zp) 5 rorResult rraAcc) s

/-- `RRA abs` (6F, RRA, R313). -/
def execRraAbs (abs : Word) (s : State) : Result :=
  undocInstr 0x6F (.abs abs) (rmwInstr (.abs abs) 6 rorResult rraAcc) s

/-- `RRA (zp),Y` (73, RRA, R313). -/
def execRraIzy (zp : Byte) (s : State) : Result :=
  undocInstr 0x73 (.izy zp) (rmwInstr (.izy zp) 8 rorResult rraAcc) s

/-- `RRA zp,X` (77, RRA, R313). -/
def execRraZpx (zp : Byte) (s : State) : Result :=
  undocInstr 0x77 (.zpx zp) (rmwInstr (.zpx zp) 6 rorResult rraAcc) s

/-- `RRA abs,Y` (7B, RRA, R313). -/
def execRraAby (abs : Word) (s : State) : Result :=
  undocInstr 0x7B (.aby abs) (rmwInstr (.aby abs) 7 rorResult rraAcc) s

/-- `RRA abs,X` (7F, RRA, R313). -/
def execRraAbx (abs : Word) (s : State) : Result :=
  undocInstr 0x7F (.abx abs) (rmwInstr (.abx abs) 7 rorResult rraAcc) s

/-- `SBC #imm` (EB, USBC, R314). -/
def execUsbcImm (imm : Byte) (s : State) : Result :=
  undocInstr 0xEB (.imm imm) (readInstr (.imm imm) 2 false (fun m s => s.sbc m)) s

/-- `NOP zp` (04, UNOP, R315). -/
def execUnopZp04 (zp : Byte) (s : State) : Result :=
  undocInstr 0x04 (.zp zp) (nopInstr (.zp zp) 3 false) s

/-- `NOP abs` (0C, UNOP, R315). -/
def execUnopAbs0C (abs : Word) (s : State) : Result :=
  undocInstr 0x0C (.abs abs) (nopInstr (.abs abs) 4 false) s

/-- `NOP zp,X` (14, UNOP, R315). -/
def execUnopZpx14 (zp : Byte) (s : State) : Result :=
  undocInstr 0x14 (.zpx zp) (nopInstr (.zpx zp) 4 false) s

/-- `NOP` (1A, UNOP, R315). -/
def execUnopImp1A (s : State) : Result := undocInstr 0x1A .imp (nopInstr .imp 2 false) s

/-- `NOP abs,X` (1C, UNOP, R315). -/
def execUnopAbx1C (abs : Word) (s : State) : Result :=
  undocInstr 0x1C (.abx abs) (nopInstr (.abx abs) 4 true) s

/-- `NOP zp,X` (34, UNOP, R315). -/
def execUnopZpx34 (zp : Byte) (s : State) : Result :=
  undocInstr 0x34 (.zpx zp) (nopInstr (.zpx zp) 4 false) s

/-- `NOP` (3A, UNOP, R315). -/
def execUnopImp3A (s : State) : Result := undocInstr 0x3A .imp (nopInstr .imp 2 false) s

/-- `NOP abs,X` (3C, UNOP, R315). -/
def execUnopAbx3C (abs : Word) (s : State) : Result :=
  undocInstr 0x3C (.abx abs) (nopInstr (.abx abs) 4 true) s

/-- `NOP zp` (44, UNOP, R315). -/
def execUnopZp44 (zp : Byte) (s : State) : Result :=
  undocInstr 0x44 (.zp zp) (nopInstr (.zp zp) 3 false) s

/-- `NOP zp,X` (54, UNOP, R315). -/
def execUnopZpx54 (zp : Byte) (s : State) : Result :=
  undocInstr 0x54 (.zpx zp) (nopInstr (.zpx zp) 4 false) s

/-- `NOP` (5A, UNOP, R315). -/
def execUnopImp5A (s : State) : Result := undocInstr 0x5A .imp (nopInstr .imp 2 false) s

/-- `NOP abs,X` (5C, UNOP, R315). -/
def execUnopAbx5C (abs : Word) (s : State) : Result :=
  undocInstr 0x5C (.abx abs) (nopInstr (.abx abs) 4 true) s

/-- `NOP zp` (64, UNOP, R315). -/
def execUnopZp64 (zp : Byte) (s : State) : Result :=
  undocInstr 0x64 (.zp zp) (nopInstr (.zp zp) 3 false) s

/-- `NOP zp,X` (74, UNOP, R315). -/
def execUnopZpx74 (zp : Byte) (s : State) : Result :=
  undocInstr 0x74 (.zpx zp) (nopInstr (.zpx zp) 4 false) s

/-- `NOP` (7A, UNOP, R315). -/
def execUnopImp7A (s : State) : Result := undocInstr 0x7A .imp (nopInstr .imp 2 false) s

/-- `NOP abs,X` (7C, UNOP, R315). -/
def execUnopAbx7C (abs : Word) (s : State) : Result :=
  undocInstr 0x7C (.abx abs) (nopInstr (.abx abs) 4 true) s

/-- `NOP #imm` (80, UNOP, R315). -/
def execUnopImm80 (imm : Byte) (s : State) : Result :=
  undocInstr 0x80 (.imm imm) (nopInstr (.imm imm) 2 false) s

/-- `NOP #imm` (82, UNOP, R315). -/
def execUnopImm82 (imm : Byte) (s : State) : Result :=
  undocInstr 0x82 (.imm imm) (nopInstr (.imm imm) 2 false) s

/-- `NOP #imm` (89, UNOP, R315). -/
def execUnopImm89 (imm : Byte) (s : State) : Result :=
  undocInstr 0x89 (.imm imm) (nopInstr (.imm imm) 2 false) s

/-- `NOP #imm` (C2, UNOP, R315). -/
def execUnopImmC2 (imm : Byte) (s : State) : Result :=
  undocInstr 0xC2 (.imm imm) (nopInstr (.imm imm) 2 false) s

/-- `NOP zp,X` (D4, UNOP, R315). -/
def execUnopZpxD4 (zp : Byte) (s : State) : Result :=
  undocInstr 0xD4 (.zpx zp) (nopInstr (.zpx zp) 4 false) s

/-- `NOP` (DA, UNOP, R315). -/
def execUnopImpDA (s : State) : Result := undocInstr 0xDA .imp (nopInstr .imp 2 false) s

/-- `NOP abs,X` (DC, UNOP, R315). -/
def execUnopAbxDC (abs : Word) (s : State) : Result :=
  undocInstr 0xDC (.abx abs) (nopInstr (.abx abs) 4 true) s

/-- `NOP #imm` (E2, UNOP, R315). -/
def execUnopImmE2 (imm : Byte) (s : State) : Result :=
  undocInstr 0xE2 (.imm imm) (nopInstr (.imm imm) 2 false) s

/-- `NOP zp,X` (F4, UNOP, R315). -/
def execUnopZpxF4 (zp : Byte) (s : State) : Result :=
  undocInstr 0xF4 (.zpx zp) (nopInstr (.zpx zp) 4 false) s

/-- `NOP` (FA, UNOP, R315). -/
def execUnopImpFA (s : State) : Result := undocInstr 0xFA .imp (nopInstr .imp 2 false) s

/-- `NOP abs,X` (FC, UNOP, R315). -/
def execUnopAbxFC (abs : Word) (s : State) : Result :=
  undocInstr 0xFC (.abx abs) (nopInstr (.abx abs) 4 true) s

/-- `NOP` (02, UNA, R316). -/
def execUnaImp02 (s : State) : Result := unassignedInstr 0x02 .imp s

/-- `NOP #imm` (0B, UNA, R316). -/
def execUnaImm0B (imm : Byte) (s : State) : Result := unassignedInstr 0x0B (.imm imm) s

/-- `NOP` (12, UNA, R316). -/
def execUnaImp12 (s : State) : Result := unassignedInstr 0x12 .imp s

/-- `NOP` (22, UNA, R316). -/
def execUnaImp22 (s : State) : Result := unassignedInstr 0x22 .imp s

/-- `NOP #imm` (2B, UNA, R316). -/
def execUnaImm2B (imm : Byte) (s : State) : Result := unassignedInstr 0x2B (.imm imm) s

/-- `NOP` (32, UNA, R316). -/
def execUnaImp32 (s : State) : Result := unassignedInstr 0x32 .imp s

/-- `NOP` (42, UNA, R316). -/
def execUnaImp42 (s : State) : Result := unassignedInstr 0x42 .imp s

/-- `NOP #imm` (4B, UNA, R316). -/
def execUnaImm4B (imm : Byte) (s : State) : Result := unassignedInstr 0x4B (.imm imm) s

/-- `NOP` (52, UNA, R316). -/
def execUnaImp52 (s : State) : Result := unassignedInstr 0x52 .imp s

/-- `NOP` (62, UNA, R316). -/
def execUnaImp62 (s : State) : Result := unassignedInstr 0x62 .imp s

/-- `NOP #imm` (6B, UNA, R316). -/
def execUnaImm6B (imm : Byte) (s : State) : Result := unassignedInstr 0x6B (.imm imm) s

/-- `NOP` (72, UNA, R316). -/
def execUnaImp72 (s : State) : Result := unassignedInstr 0x72 .imp s

/-- `NOP #imm` (8B, UNA, R316). -/
def execUnaImm8B (imm : Byte) (s : State) : Result := unassignedInstr 0x8B (.imm imm) s

/-- `NOP` (92, UNA, R316). -/
def execUnaImp92 (s : State) : Result := unassignedInstr 0x92 .imp s

/-- `NOP (zp),Y` (93, UNA, R316). -/
def execUnaIzy93 (zp : Byte) (s : State) : Result := unassignedInstr 0x93 (.izy zp) s

/-- `NOP abs,Y` (9B, UNA, R316). -/
def execUnaAby9B (abs : Word) (s : State) : Result := unassignedInstr 0x9B (.aby abs) s

/-- `NOP abs,X` (9C, UNA, R316). -/
def execUnaAbx9C (abs : Word) (s : State) : Result := unassignedInstr 0x9C (.abx abs) s

/-- `NOP abs,Y` (9E, UNA, R316). -/
def execUnaAby9E (abs : Word) (s : State) : Result := unassignedInstr 0x9E (.aby abs) s

/-- `NOP abs,Y` (9F, UNA, R316). -/
def execUnaAby9F (abs : Word) (s : State) : Result := unassignedInstr 0x9F (.aby abs) s

/-- `NOP #imm` (AB, UNA, R316). -/
def execUnaImmAB (imm : Byte) (s : State) : Result := unassignedInstr 0xAB (.imm imm) s

/-- `NOP` (B2, UNA, R316). -/
def execUnaImpB2 (s : State) : Result := unassignedInstr 0xB2 .imp s

/-- `NOP abs,Y` (BB, UNA, R316). -/
def execUnaAbyBB (abs : Word) (s : State) : Result := unassignedInstr 0xBB (.aby abs) s

/-- `NOP #imm` (CB, UNA, R316). -/
def execUnaImmCB (imm : Byte) (s : State) : Result := unassignedInstr 0xCB (.imm imm) s

/-- `NOP` (D2, UNA, R316). -/
def execUnaImpD2 (s : State) : Result := unassignedInstr 0xD2 .imp s

/-- `NOP` (F2, UNA, R316). -/
def execUnaImpF2 (s : State) : Result := unassignedInstr 0xF2 .imp s

end Sys2Proof.Machine
end

