-- ==== Sys2Proof/Machine/Dispatch.lean ====
section
/-! DEFINITION. The dispatch: one arm per constructor of `Instr`, each one call of its meaning
(spec/30_encoding.md R131, R164). -/

namespace Sys2Proof.Machine

def exec (i : Instr) (s : State) : Host.Outcome State Fault Refusal :=
  match i with
  | .oraIzx zp => Sys2Proof.Machine.execOraIzx zp s
  | .sloIzx zp => Sys2Proof.Machine.execSloIzx zp s
  | .unopZp04 zp => Sys2Proof.Machine.execUnopZp04 zp s
  | .oraZp zp => Sys2Proof.Machine.execOraZp zp s
  | .aslZp zp => Sys2Proof.Machine.execAslZp zp s
  | .sloZp zp => Sys2Proof.Machine.execSloZp zp s
  | .oraImm imm => Sys2Proof.Machine.execOraImm imm s
  | .unaImm0B imm => Sys2Proof.Machine.execUnaImm0B imm s
  | .unopAbs0C abs => Sys2Proof.Machine.execUnopAbs0C abs s
  | .oraAbs abs => Sys2Proof.Machine.execOraAbs abs s
  | .aslAbs abs => Sys2Proof.Machine.execAslAbs abs s
  | .sloAbs abs => Sys2Proof.Machine.execSloAbs abs s
  | .bpl rel => Sys2Proof.Machine.execBpl rel s
  | .oraIzy zp => Sys2Proof.Machine.execOraIzy zp s
  | .sloIzy zp => Sys2Proof.Machine.execSloIzy zp s
  | .unopZpx14 zp => Sys2Proof.Machine.execUnopZpx14 zp s
  | .oraZpx zp => Sys2Proof.Machine.execOraZpx zp s
  | .aslZpx zp => Sys2Proof.Machine.execAslZpx zp s
  | .sloZpx zp => Sys2Proof.Machine.execSloZpx zp s
  | .oraAby abs => Sys2Proof.Machine.execOraAby abs s
  | .sloAby abs => Sys2Proof.Machine.execSloAby abs s
  | .unopAbx1C abs => Sys2Proof.Machine.execUnopAbx1C abs s
  | .oraAbx abs => Sys2Proof.Machine.execOraAbx abs s
  | .aslAbx abs => Sys2Proof.Machine.execAslAbx abs s
  | .sloAbx abs => Sys2Proof.Machine.execSloAbx abs s
  | .jsrAbs abs => Sys2Proof.Machine.execJsrAbs abs s
  | .andIzx zp => Sys2Proof.Machine.execAndIzx zp s
  | .rlaIzx zp => Sys2Proof.Machine.execRlaIzx zp s
  | .bitZp zp => Sys2Proof.Machine.execBitZp zp s
  | .andZp zp => Sys2Proof.Machine.execAndZp zp s
  | .rolZp zp => Sys2Proof.Machine.execRolZp zp s
  | .rlaZp zp => Sys2Proof.Machine.execRlaZp zp s
  | .andImm imm => Sys2Proof.Machine.execAndImm imm s
  | .unaImm2B imm => Sys2Proof.Machine.execUnaImm2B imm s
  | .bitAbs abs => Sys2Proof.Machine.execBitAbs abs s
  | .andAbs abs => Sys2Proof.Machine.execAndAbs abs s
  | .rolAbs abs => Sys2Proof.Machine.execRolAbs abs s
  | .rlaAbs abs => Sys2Proof.Machine.execRlaAbs abs s
  | .bmi rel => Sys2Proof.Machine.execBmi rel s
  | .andIzy zp => Sys2Proof.Machine.execAndIzy zp s
  | .rlaIzy zp => Sys2Proof.Machine.execRlaIzy zp s
  | .unopZpx34 zp => Sys2Proof.Machine.execUnopZpx34 zp s
  | .andZpx zp => Sys2Proof.Machine.execAndZpx zp s
  | .rolZpx zp => Sys2Proof.Machine.execRolZpx zp s
  | .rlaZpx zp => Sys2Proof.Machine.execRlaZpx zp s
  | .andAby abs => Sys2Proof.Machine.execAndAby abs s
  | .rlaAby abs => Sys2Proof.Machine.execRlaAby abs s
  | .unopAbx3C abs => Sys2Proof.Machine.execUnopAbx3C abs s
  | .andAbx abs => Sys2Proof.Machine.execAndAbx abs s
  | .rolAbx abs => Sys2Proof.Machine.execRolAbx abs s
  | .rlaAbx abs => Sys2Proof.Machine.execRlaAbx abs s
  | .eorIzx zp => Sys2Proof.Machine.execEorIzx zp s
  | .sreIzx zp => Sys2Proof.Machine.execSreIzx zp s
  | .unopZp44 zp => Sys2Proof.Machine.execUnopZp44 zp s
  | .eorZp zp => Sys2Proof.Machine.execEorZp zp s
  | .lsrZp zp => Sys2Proof.Machine.execLsrZp zp s
  | .sreZp zp => Sys2Proof.Machine.execSreZp zp s
  | .eorImm imm => Sys2Proof.Machine.execEorImm imm s
  | .unaImm4B imm => Sys2Proof.Machine.execUnaImm4B imm s
  | .jmpAbs abs => Sys2Proof.Machine.execJmpAbs abs s
  | .eorAbs abs => Sys2Proof.Machine.execEorAbs abs s
  | .lsrAbs abs => Sys2Proof.Machine.execLsrAbs abs s
  | .sreAbs abs => Sys2Proof.Machine.execSreAbs abs s
  | .bvc rel => Sys2Proof.Machine.execBvc rel s
  | .eorIzy zp => Sys2Proof.Machine.execEorIzy zp s
  | .sreIzy zp => Sys2Proof.Machine.execSreIzy zp s
  | .unopZpx54 zp => Sys2Proof.Machine.execUnopZpx54 zp s
  | .eorZpx zp => Sys2Proof.Machine.execEorZpx zp s
  | .lsrZpx zp => Sys2Proof.Machine.execLsrZpx zp s
  | .sreZpx zp => Sys2Proof.Machine.execSreZpx zp s
  | .eorAby abs => Sys2Proof.Machine.execEorAby abs s
  | .sreAby abs => Sys2Proof.Machine.execSreAby abs s
  | .unopAbx5C abs => Sys2Proof.Machine.execUnopAbx5C abs s
  | .eorAbx abs => Sys2Proof.Machine.execEorAbx abs s
  | .lsrAbx abs => Sys2Proof.Machine.execLsrAbx abs s
  | .sreAbx abs => Sys2Proof.Machine.execSreAbx abs s
  | .adcIzx zp => Sys2Proof.Machine.execAdcIzx zp s
  | .rraIzx zp => Sys2Proof.Machine.execRraIzx zp s
  | .unopZp64 zp => Sys2Proof.Machine.execUnopZp64 zp s
  | .adcZp zp => Sys2Proof.Machine.execAdcZp zp s
  | .rorZp zp => Sys2Proof.Machine.execRorZp zp s
  | .rraZp zp => Sys2Proof.Machine.execRraZp zp s
  | .adcImm imm => Sys2Proof.Machine.execAdcImm imm s
  | .unaImm6B imm => Sys2Proof.Machine.execUnaImm6B imm s
  | .jmpInd abs => Sys2Proof.Machine.execJmpInd abs s
  | .adcAbs abs => Sys2Proof.Machine.execAdcAbs abs s
  | .rorAbs abs => Sys2Proof.Machine.execRorAbs abs s
  | .rraAbs abs => Sys2Proof.Machine.execRraAbs abs s
  | .bvs rel => Sys2Proof.Machine.execBvs rel s
  | .adcIzy zp => Sys2Proof.Machine.execAdcIzy zp s
  | .rraIzy zp => Sys2Proof.Machine.execRraIzy zp s
  | .unopZpx74 zp => Sys2Proof.Machine.execUnopZpx74 zp s
  | .adcZpx zp => Sys2Proof.Machine.execAdcZpx zp s
  | .rorZpx zp => Sys2Proof.Machine.execRorZpx zp s
  | .rraZpx zp => Sys2Proof.Machine.execRraZpx zp s
  | .adcAby abs => Sys2Proof.Machine.execAdcAby abs s
  | .rraAby abs => Sys2Proof.Machine.execRraAby abs s
  | .unopAbx7C abs => Sys2Proof.Machine.execUnopAbx7C abs s
  | .adcAbx abs => Sys2Proof.Machine.execAdcAbx abs s
  | .rorAbx abs => Sys2Proof.Machine.execRorAbx abs s
  | .rraAbx abs => Sys2Proof.Machine.execRraAbx abs s
  | .unopImm80 imm => Sys2Proof.Machine.execUnopImm80 imm s
  | .staIzx zp => Sys2Proof.Machine.execStaIzx zp s
  | .unopImm82 imm => Sys2Proof.Machine.execUnopImm82 imm s
  | .saxIzx zp => Sys2Proof.Machine.execSaxIzx zp s
  | .styZp zp => Sys2Proof.Machine.execStyZp zp s
  | .staZp zp => Sys2Proof.Machine.execStaZp zp s
  | .stxZp zp => Sys2Proof.Machine.execStxZp zp s
  | .saxZp zp => Sys2Proof.Machine.execSaxZp zp s
  | .unopImm89 imm => Sys2Proof.Machine.execUnopImm89 imm s
  | .unaImm8B imm => Sys2Proof.Machine.execUnaImm8B imm s
  | .styAbs abs => Sys2Proof.Machine.execStyAbs abs s
  | .staAbs abs => Sys2Proof.Machine.execStaAbs abs s
  | .stxAbs abs => Sys2Proof.Machine.execStxAbs abs s
  | .saxAbs abs => Sys2Proof.Machine.execSaxAbs abs s
  | .bcc rel => Sys2Proof.Machine.execBcc rel s
  | .staIzy zp => Sys2Proof.Machine.execStaIzy zp s
  | .unaIzy93 zp => Sys2Proof.Machine.execUnaIzy93 zp s
  | .styZpx zp => Sys2Proof.Machine.execStyZpx zp s
  | .staZpx zp => Sys2Proof.Machine.execStaZpx zp s
  | .stxZpy zp => Sys2Proof.Machine.execStxZpy zp s
  | .saxZpy zp => Sys2Proof.Machine.execSaxZpy zp s
  | .staAby abs => Sys2Proof.Machine.execStaAby abs s
  | .unaAby9B abs => Sys2Proof.Machine.execUnaAby9B abs s
  | .unaAbx9C abs => Sys2Proof.Machine.execUnaAbx9C abs s
  | .staAbx abs => Sys2Proof.Machine.execStaAbx abs s
  | .unaAby9E abs => Sys2Proof.Machine.execUnaAby9E abs s
  | .unaAby9F abs => Sys2Proof.Machine.execUnaAby9F abs s
  | .ldyImm imm => Sys2Proof.Machine.execLdyImm imm s
  | .ldaIzx zp => Sys2Proof.Machine.execLdaIzx zp s
  | .ldxImm imm => Sys2Proof.Machine.execLdxImm imm s
  | .laxIzx zp => Sys2Proof.Machine.execLaxIzx zp s
  | .ldyZp zp => Sys2Proof.Machine.execLdyZp zp s
  | .ldaZp zp => Sys2Proof.Machine.execLdaZp zp s
  | .ldxZp zp => Sys2Proof.Machine.execLdxZp zp s
  | .laxZp zp => Sys2Proof.Machine.execLaxZp zp s
  | .ldaImm imm => Sys2Proof.Machine.execLdaImm imm s
  | .unaImmAB imm => Sys2Proof.Machine.execUnaImmAB imm s
  | .ldyAbs abs => Sys2Proof.Machine.execLdyAbs abs s
  | .ldaAbs abs => Sys2Proof.Machine.execLdaAbs abs s
  | .ldxAbs abs => Sys2Proof.Machine.execLdxAbs abs s
  | .laxAbs abs => Sys2Proof.Machine.execLaxAbs abs s
  | .bcs rel => Sys2Proof.Machine.execBcs rel s
  | .ldaIzy zp => Sys2Proof.Machine.execLdaIzy zp s
  | .laxIzy zp => Sys2Proof.Machine.execLaxIzy zp s
  | .ldyZpx zp => Sys2Proof.Machine.execLdyZpx zp s
  | .ldaZpx zp => Sys2Proof.Machine.execLdaZpx zp s
  | .ldxZpy zp => Sys2Proof.Machine.execLdxZpy zp s
  | .laxZpy zp => Sys2Proof.Machine.execLaxZpy zp s
  | .ldaAby abs => Sys2Proof.Machine.execLdaAby abs s
  | .unaAbyBB abs => Sys2Proof.Machine.execUnaAbyBB abs s
  | .ldyAbx abs => Sys2Proof.Machine.execLdyAbx abs s
  | .ldaAbx abs => Sys2Proof.Machine.execLdaAbx abs s
  | .ldxAby abs => Sys2Proof.Machine.execLdxAby abs s
  | .laxAby abs => Sys2Proof.Machine.execLaxAby abs s
  | .cpyImm imm => Sys2Proof.Machine.execCpyImm imm s
  | .cmpIzx zp => Sys2Proof.Machine.execCmpIzx zp s
  | .unopImmC2 imm => Sys2Proof.Machine.execUnopImmC2 imm s
  | .dcpIzx zp => Sys2Proof.Machine.execDcpIzx zp s
  | .cpyZp zp => Sys2Proof.Machine.execCpyZp zp s
  | .cmpZp zp => Sys2Proof.Machine.execCmpZp zp s
  | .decZp zp => Sys2Proof.Machine.execDecZp zp s
  | .dcpZp zp => Sys2Proof.Machine.execDcpZp zp s
  | .cmpImm imm => Sys2Proof.Machine.execCmpImm imm s
  | .unaImmCB imm => Sys2Proof.Machine.execUnaImmCB imm s
  | .cpyAbs abs => Sys2Proof.Machine.execCpyAbs abs s
  | .cmpAbs abs => Sys2Proof.Machine.execCmpAbs abs s
  | .decAbs abs => Sys2Proof.Machine.execDecAbs abs s
  | .dcpAbs abs => Sys2Proof.Machine.execDcpAbs abs s
  | .bne rel => Sys2Proof.Machine.execBne rel s
  | .cmpIzy zp => Sys2Proof.Machine.execCmpIzy zp s
  | .dcpIzy zp => Sys2Proof.Machine.execDcpIzy zp s
  | .unopZpxD4 zp => Sys2Proof.Machine.execUnopZpxD4 zp s
  | .cmpZpx zp => Sys2Proof.Machine.execCmpZpx zp s
  | .decZpx zp => Sys2Proof.Machine.execDecZpx zp s
  | .dcpZpx zp => Sys2Proof.Machine.execDcpZpx zp s
  | .cmpAby abs => Sys2Proof.Machine.execCmpAby abs s
  | .dcpAby abs => Sys2Proof.Machine.execDcpAby abs s
  | .unopAbxDC abs => Sys2Proof.Machine.execUnopAbxDC abs s
  | .cmpAbx abs => Sys2Proof.Machine.execCmpAbx abs s
  | .decAbx abs => Sys2Proof.Machine.execDecAbx abs s
  | .dcpAbx abs => Sys2Proof.Machine.execDcpAbx abs s
  | .cpxImm imm => Sys2Proof.Machine.execCpxImm imm s
  | .sbcIzx zp => Sys2Proof.Machine.execSbcIzx zp s
  | .unopImmE2 imm => Sys2Proof.Machine.execUnopImmE2 imm s
  | .iscIzx zp => Sys2Proof.Machine.execIscIzx zp s
  | .cpxZp zp => Sys2Proof.Machine.execCpxZp zp s
  | .sbcZp zp => Sys2Proof.Machine.execSbcZp zp s
  | .incZp zp => Sys2Proof.Machine.execIncZp zp s
  | .iscZp zp => Sys2Proof.Machine.execIscZp zp s
  | .sbcImm imm => Sys2Proof.Machine.execSbcImm imm s
  | .usbcImm imm => Sys2Proof.Machine.execUsbcImm imm s
  | .cpxAbs abs => Sys2Proof.Machine.execCpxAbs abs s
  | .sbcAbs abs => Sys2Proof.Machine.execSbcAbs abs s
  | .incAbs abs => Sys2Proof.Machine.execIncAbs abs s
  | .iscAbs abs => Sys2Proof.Machine.execIscAbs abs s
  | .beq rel => Sys2Proof.Machine.execBeq rel s
  | .sbcIzy zp => Sys2Proof.Machine.execSbcIzy zp s
  | .iscIzy zp => Sys2Proof.Machine.execIscIzy zp s
  | .unopZpxF4 zp => Sys2Proof.Machine.execUnopZpxF4 zp s
  | .sbcZpx zp => Sys2Proof.Machine.execSbcZpx zp s
  | .incZpx zp => Sys2Proof.Machine.execIncZpx zp s
  | .iscZpx zp => Sys2Proof.Machine.execIscZpx zp s
  | .sbcAby abs => Sys2Proof.Machine.execSbcAby abs s
  | .iscAby abs => Sys2Proof.Machine.execIscAby abs s
  | .unopAbxFC abs => Sys2Proof.Machine.execUnopAbxFC abs s
  | .sbcAbx abs => Sys2Proof.Machine.execSbcAbx abs s
  | .incAbx abs => Sys2Proof.Machine.execIncAbx abs s
  | .iscAbx abs => Sys2Proof.Machine.execIscAbx abs s
  | .brk => Sys2Proof.Machine.execBrk s
  | .unaImp02 => Sys2Proof.Machine.execUnaImp02 s
  | .php => Sys2Proof.Machine.execPhp s
  | .aslAcc => Sys2Proof.Machine.execAslAcc s
  | .unaImp12 => Sys2Proof.Machine.execUnaImp12 s
  | .clc => Sys2Proof.Machine.execClc s
  | .unopImp1A => Sys2Proof.Machine.execUnopImp1A s
  | .unaImp22 => Sys2Proof.Machine.execUnaImp22 s
  | .plp => Sys2Proof.Machine.execPlp s
  | .rolAcc => Sys2Proof.Machine.execRolAcc s
  | .unaImp32 => Sys2Proof.Machine.execUnaImp32 s
  | .sec => Sys2Proof.Machine.execSec s
  | .unopImp3A => Sys2Proof.Machine.execUnopImp3A s
  | .rti => Sys2Proof.Machine.execRti s
  | .unaImp42 => Sys2Proof.Machine.execUnaImp42 s
  | .pha => Sys2Proof.Machine.execPha s
  | .lsrAcc => Sys2Proof.Machine.execLsrAcc s
  | .unaImp52 => Sys2Proof.Machine.execUnaImp52 s
  | .cli => Sys2Proof.Machine.execCli s
  | .unopImp5A => Sys2Proof.Machine.execUnopImp5A s
  | .rts => Sys2Proof.Machine.execRts s
  | .unaImp62 => Sys2Proof.Machine.execUnaImp62 s
  | .pla => Sys2Proof.Machine.execPla s
  | .rorAcc => Sys2Proof.Machine.execRorAcc s
  | .unaImp72 => Sys2Proof.Machine.execUnaImp72 s
  | .sei => Sys2Proof.Machine.execSei s
  | .unopImp7A => Sys2Proof.Machine.execUnopImp7A s
  | .dey => Sys2Proof.Machine.execDey s
  | .txa => Sys2Proof.Machine.execTxa s
  | .unaImp92 => Sys2Proof.Machine.execUnaImp92 s
  | .tya => Sys2Proof.Machine.execTya s
  | .txs => Sys2Proof.Machine.execTxs s
  | .tay => Sys2Proof.Machine.execTay s
  | .tax => Sys2Proof.Machine.execTax s
  | .unaImpB2 => Sys2Proof.Machine.execUnaImpB2 s
  | .clv => Sys2Proof.Machine.execClv s
  | .tsx => Sys2Proof.Machine.execTsx s
  | .iny => Sys2Proof.Machine.execIny s
  | .dex => Sys2Proof.Machine.execDex s
  | .unaImpD2 => Sys2Proof.Machine.execUnaImpD2 s
  | .cld => Sys2Proof.Machine.execCld s
  | .unopImpDA => Sys2Proof.Machine.execUnopImpDA s
  | .inx => Sys2Proof.Machine.execInx s
  | .nop => Sys2Proof.Machine.execNop s
  | .unaImpF2 => Sys2Proof.Machine.execUnaImpF2 s
  | .sed => Sys2Proof.Machine.execSed s
  | .unopImpFA => Sys2Proof.Machine.execUnopImpFA s

end Sys2Proof.Machine
end

