-- ==== Sys2Proof/Machine/Schedule.lean ====
section
/-! DEFINITION. The schedule (spec/60_exceptions.md R404, spec/64_orchestrator.md R700): the CPU part of
an iteration, the iteration, and the placing of an instruction for the next fetch. -/

namespace Sys2Proof.Machine

/-- `step()` of the CPU alone (R131): fetch at PC, then the instruction's own effect. -/
def cpuStep (s : State) : Result :=
  let f := fetchInstr s
  exec f.instr f.st

/-- `cpu_advance()` (R404): take the polled event, or run one instruction. -/
def cpuAdvance (s : State) : Result :=
  match poll s with
  | some k => .next (interrupt k s)
  | none => cpuStep s

/-- `iterate()` (R700): the CPU part, then the catch-up of the devices. -/
def iterate (s : State) : Result :=
  match cpuAdvance s with
  | .next t => .next (catchUp s.cyc t)
  | .fault r => .fault r
  | .refused r => .refused r

/-- The state in which the next iteration fetches exactly these bytes (at most three of them): no
interrupt before the fetch, and the bytes in the storage behind PC. -/
def withFetchBytes (bs : List Byte) (s : State) : State :=
  let s := quiet s
  let pc := fetchablePc s
  placeBytes pc bs { s with pc := pc }

end Sys2Proof.Machine
end

