-- ==== Sys2Proof/Machine/Step.lean ====
section
/-! DEFINITION. The step of the machine: one iteration of the orchestrator (spec/64_orchestrator.md
R700), the unit at which a host may stop (R724). -/

namespace Sys2Proof.Machine

/-- One step: `iterate()` (R700). An interrupt entry is a step of its own (R404). -/
def step (s : State) : Host.Outcome State Fault Refusal := iterate s

/-- `s` with the instruction `w` (numbered as spec/opcode_table.json numbers it, bits above `nbits`
zero) stored where `step` fetches its next instruction (assumption log 7). -/
def State.withFetchWord (s : State) (nbits w : Nat) : State := withFetchBytes (tableBytes nbits w) s

end Sys2Proof.Machine
end

