-- ==== Sys2Proof/Machine/HostCalls.lean ====
section
/-! DEFINITION. The calls of the host (spec/64_orchestrator.md R720 to R730): `load` with the cartridge
image format (spec/63_mapper_cartridge.md R620 to R629), `reset()` (spec/70_reset_and_hazards.md
R740), `generateFrame()` (R700), and the snapshot (R727). They act between iterations (R724). -/

namespace Sys2Proof.Machine

/-! ### The cartridge image -/

/-- Why a load fails (R628): typed results of the host's call, no exceptions of the CPU (R440). -/
inductive LoadError where
  | badMagic
  | unsupportedVersion
  | unsupportedMapper (id : Nat)
deriving DecidableEq, Repr

/-- The header's fields (R621, R623, R626). -/
structure Header where
  magicOk : Bool
  prgBanks : Nat
  chrBanks : Nat
  mirroring : Mirroring
  battery : Bool
  trainer : Bool
  mapperId : Nat
  version : BitVec 2
deriving DecidableEq, Repr

/-- Read the 16 header bytes (R621, R623). Bytes 8 to 15 are ignored. -/
def parseHeader (bytes : List Byte) : Header :=
  let b (i : Nat) : Byte := bytes.getD i 0
  { magicOk := decide (16 ≤ bytes.length) && bytes.take 4 == [0x4E, 0x45, 0x53, 0x1A]
    prgBanks := (b 4).toNat
    chrBanks := (b 5).toNat
    mirroring := if (b 6).getLsbD 3 then .F else if (b 6).getLsbD 0 then .V else .H
    battery := (b 6).getLsbD 1
    trainer := (b 6).getLsbD 2
    mapperId := ((b 7 &&& (0xF0 : Byte)) ||| (b 6 >>> 4)).toNat
    version := bits (b 7) 2 2 }

/-- Where `prg_rom` begins in the image (R624). -/
def Header.prgStart (h : Header) : Nat := 16 + if h.trainer then 512 else 0

/-- The body is complete and there is a PRG bank (R627). -/
def Header.bodyOk (h : Header) (length : Nat) : Bool :=
  decide (0 < h.prgBanks) &&
    decide (h.prgStart + h.prgBanks * 16384 + h.chrBanks * 8192 ≤ length)

/-- The cartridge of a good image (R623, R624, R632, R635): RAM at `RAM_INIT`. -/
def Header.cartridge (h : Header) (bytes : List Byte) : Cartridge :=
  let body := bytes.drop h.prgStart
  { prgBanks := h.prgBanks
    prgRom := Memory.ofBytes (body.take (h.prgBanks * 16384))
    chrBanks := h.chrBanks
    chr := Memory.ofBytes ((body.drop (h.prgBanks * 16384)).take (h.chrBanks * 8192))
    mirroring := h.mirroring
    prgRam := if config.prgRamPresent then some [] else none
    battery := h.battery }

/-- A cartridge with its mapper. -/
structure Game where
  cart : Cartridge
  mapper : Mapper

/-- `parseRom` and the construction of the mapper, with the checks in their order (R628, R629). -/
def parseGame (bytes : List Byte) : Except LoadError Game :=
  let h := parseHeader bytes
  if !h.magicOk then .error .badMagic
  else if h.version = 2 then .error .unsupportedVersion
  else if !h.bodyOk bytes.length then .error .badMagic
  else
    let c := h.cartridge bytes
    match Mapper.construct c h.mapperId with
    | some m => .ok ⟨c, m⟩
    | none => .error (.unsupportedMapper h.mapperId)

/-- What `load` answers: the machine after it (R628: a failed load changes nothing), and the error
if it failed. -/
structure LoadResult where
  st : State
  error : Option LoadError

/-! ### Reset (R740) -/

/-- The cartridge after `reset()` (R60, R740): graphics RAM and program RAM without battery at
`RAM_INIT`. -/
def Cartridge.reset (c : Cartridge) : Cartridge :=
  { c with
    chr := if c.chrIsRam then [] else c.chr
    prgRam := if c.battery then c.prgRam else c.prgRam.map (fun _ => []) }

/-- `reset()` (R740, R741): everything but the ROM, battery RAM, the host's side and the
configuration; the CPU last, so that the vector is read through the mapper in its reset state. -/
def hostReset (s : State) : State :=
  let m := s.mapper.reset s.cart
  let s1 : State :=
    { State.reset with cart := s.cart.reset, mapper := m, host := s.host }
  let q := readPointer config.vecReset (config.vecReset + 1) s1
  { q.st with pc := q.value }

/-- `load(bytes)` (R629): on success the new game is attached and the machine reset; on failure the
state is as it was (R628). -/
def hostLoad (bytes : List Byte) (s : State) : LoadResult :=
  match parseGame bytes with
  | .ok g => ⟨hostReset { s with cart := g.cart, mapper := g.mapper }, none⟩
  | .error e => ⟨s, some e⟩

/-! ### Running (R700, R704) -/

/-- `repeat iterate() until frame_ready`, at most `fuel` iterations. -/
def runToFrame : Nat → State → Result
  | 0, s => .next s
  | fuel + 1, s =>
    match step s with
    | .next t => if t.ppu.frameReady then .next t else runToFrame fuel t
    | r => r

/-- `frame_ready <- 0`. -/
def clearFrameReady (s : State) : State := { s with ppu := { s.ppu with frameReady := false } }

/-- Iterations that surely reach the flip: a frame has at most 89342 ticks (R480) and an iteration
makes at least one. -/
def frameFuel : Nat := 89342

/-- `generateFrame()` (R700, R704). -/
def generateFrame (s : State) : Result :=
  match runToFrame frameFuel (clearFrameReady s) with
  | .next t => .next (clearFrameReady t)
  | r => r

/-! ### Host input and output (R714, R721, R722) -/

/-- The host queues the answers of its two input callbacks for the next unanswered strobe write. -/
def hostInput (player1 player2 : Byte) (s : State) : State :=
  { s with host := { s.host with inputs := s.host.inputs ++ [(player1, player2)] } }

/-- The host takes what the sinks were given: ownership goes to the host (R721, R726). -/
def hostDrain (s : State) : State :=
  { s with host := { s.host with frames := [], samples := [] } }

/-! ### Snapshot (R727, R728, D54) -/

/-- What identifies a cartridge to `restore`: everything of it that never changes. -/
structure CartridgeIdentity where
  prgBanks : Nat
  prgRom : Memory
  chrBanks : Nat
  chrRom : Memory
  mirroring : Mirroring
  battery : Bool
  mapperId : Nat
deriving DecidableEq, Repr

/-- The identity of the cartridge in the machine. -/
def cartridgeIdentity (s : State) : CartridgeIdentity where
  prgBanks := s.cart.prgBanks
  prgRom := s.cart.prgRom
  chrBanks := s.cart.chrBanks
  chrRom := if s.cart.chrIsRam then [] else s.cart.chr
  mirroring := s.cart.mirroring
  battery := s.cart.battery
  mapperId := s.mapper.id

/-- A snapshot: a version tag and the complete state (R727). -/
structure Snapshot where
  version : Nat
  state : State
deriving DecidableEq, Repr

/-- The version tag this core writes (R727: the layout is its own). -/
def snapshotVersion : Nat := 1

/-- `capture()` (R727). -/
def capture (s : State) : Snapshot := ⟨snapshotVersion, s⟩

/-- Why a restore fails (R727). -/
inductive RestoreError where
  | versionMismatch
  | cartridgeMismatch
deriving DecidableEq, Repr

/-- `restore(r)` (R727): all of the state from the record but the host's side of the callbacks,
which is not the core's; it fails, changing nothing, on another version tag or cartridge. -/
def restore (r : Snapshot) (s : State) : Except RestoreError State :=
  if r.version ≠ snapshotVersion then .error .versionMismatch
  else if cartridgeIdentity r.state ≠ cartridgeIdentity s then .error .cartridgeMismatch
  else .ok { r.state with host := s.host }

end Sys2Proof.Machine
end

