-- ==== Sys2Proof/Safety.lean ====
section
/-! DEFINITION. What counts as a safe run, in the terms the statements use. The machine has no fault
and no refusal of its own (spec/60_exceptions.md R401), so a run is safe when every step answers a
next state and the state keeps the machine's invariants: the bits of `P` that are not storage, the
canonical form and the size of every memory, and the ranges of every counter. -/

namespace Sys2Proof.Machine

/-- `P` at an instruction boundary: bit 5 is 1 and bit 4 is 0 (R28). -/
def pOk (p : Byte) : Bool := getFlag .U p && !getFlag .B p

/-- A storage in canonical form with every offset below its size. -/
def storeOk (size : Nat) (m : Memory) : Bool := m.wf && m.within size

/-- The size of `vram`: 4096 bytes when the cartridge is four-screen (R65, D33). -/
def vramSize (c : Cartridge) : Nat := if c.mirroring = .F then 4096 else 2048

/-- Every memory of the machine is in canonical form and within its size (R39, R60, R65). -/
def memoriesOk (s : State) : Bool :=
  storeOk 2048 s.ram && storeOk (vramSize s.cart) s.vram && storeOk 256 s.ppu.oam &&
  storeOk s.cart.prgSize s.cart.prgRom && storeOk s.cart.chrSize s.cart.chr &&
  (match s.cart.prgRam with
    | some m => storeOk 8192 m
    | none => true)

/-- The cartridge is one that a load can make: at least one PRG bank, and a mirroring mode of the
header (R621, R623, R627). -/
def cartridgeOk (c : Cartridge) : Bool :=
  decide (0 < c.prgBanks) && (c.mirroring != .S0) && (c.mirroring != .S1)

/-- The raster position lies in the grid (R43, R475). -/
def rasterOk (p : Ppu) : Bool := decide (p.scanline ≤ 261) && decide (p.dot ≤ 340)

/-- The sprite buffers hold at most eight sprites (R45). -/
def spritesOk (p : Ppu) : Bool := decide (p.slotCount ≤ 8)

/-- The ports count at most eight reads (R66). -/
def portsOk (s : State) : Bool := decide (s.ctl0.reads ≤ 8) && decide (s.ctl1.reads ≤ 8)

/-- The audio counters are in range: the shift register is never 0 (R570), the delta unit's bit
count is 1 to 8 at a boundary (R57, R573), the sequencer's count is below its period (R580). -/
def audioOk (u : Apu) : Bool :=
  (u.noise.lfsr != 0) && decide (1 ≤ u.dmc.bitsLeft) && decide (u.dmc.bitsLeft ≤ 8) &&
  decide (u.fc < u.period)

/-- The serial counter of variant 1 is 0 to 4 (R61), and its mirroring is four-screen only on a
four-screen cartridge (R638, R654). The bank of variant 7 has only bits 2:0 (R670), and its mirroring
is that of `one_screen` (R673). -/
def mapperOk (c : Cartridge) : Mapper → Bool
  | .shiftRegister r => decide (r.srCount ≤ 4) && (r.mir != .F || c.mirroring == .F)
  | .swap32 bank oneScreen mir =>
    decide (bank.toNat < 8) && mir == oneScreenMirroring oneScreen
  | _ => true

/-- The machine's invariant. -/
def stateOk (s : State) : Bool :=
  pOk s.p && memoriesOk s && cartridgeOk s.cart && rasterOk s.ppu && spritesOk s.ppu &&
  portsOk s && audioOk s.apu && mapperOk s.cart s.mapper

/-- Every one of the next `n` steps answers a next state that keeps the invariant. -/
def safeRun : Nat → State → Prop
  | 0, s => stateOk s = true
  | n + 1, s => stateOk s = true ∧ ∃ t, step s = .next t ∧ safeRun n t

end Sys2Proof.Machine
end

