-- ==== Sys2Proof/WellFormed.lean ====
section
/-! DEFINITION. Well-formed instructions. The encoding has no reserved field and every operand byte
value is legal in every format (spec/30_encoding.md R163), and an `Instr` already carries operands
of exactly the width of its format (R132), so EVERY term of `Instr` is well-formed: no check can
fail on one. What can be checked of an instruction is the opcode's class: whether it is one of the
151 documented opcodes, one of the 80 implemented undocumented ones, or one of the 25 unassigned
bytes, whose form is the spec's own choice (R162, R316; spec/93_implementation_defined.md U3). -/

namespace Sys2Proof

/-- A well-formed instruction. Always true: R163 leaves nothing to refuse, and the operand widths
of R132 are the types of the constructors' fields. -/
def Instr.wellFormed (_ : Instr) : Bool := true

/-- The classes of the opcode table (R155, R160, R162, R317). -/
inductive OpcodeClass where
  | documented | undocumented | unassigned
deriving DecidableEq, Repr

/-- The class of an instruction's opcode: unassigned is `UNA` (R162); undocumented the ten
mnemonics of R160; every other is documented (R155). -/
def Instr.opcodeClass (i : Instr) : OpcodeClass :=
  match i.mnemonic with
  | .UNA => .unassigned
  | .LAX | .SAX | .SLO | .RLA | .SRE | .RRA | .DCP | .ISC | .USBC | .UNOP => .undocumented
  | _ => .documented

/-- The portability check of U3: the instruction's form does not rest on the spec's own choice
D9 for the unassigned bytes. The machine EXECUTES the instructions this check refuses (R316). -/
def Instr.assigned (i : Instr) : Bool := i.opcodeClass != .unassigned

/-- The check that an instruction is one of the 151 documented opcodes (R155). -/
def Instr.documented (i : Instr) : Bool := i.opcodeClass == .documented

end Sys2Proof
end

