-- ==== Sys2Proof/Certificates/Slice0/Obligations.lean ====
section
/-! DEFINITION. The statements for the provers, made from the numbered rules of spec/. The first part is
the vocabulary they use: how flags, cycles, storage bytes and frames are said. In every statement
about `exec` the state is the one after the instruction's bytes have been fetched: `pc` is the
address of the opcode byte. -/

namespace Sys2Proof.Machine

/-! ### Vocabulary: flags and cycles -/

/-- What an instruction makes of each flag: `some b` for the new value, `none` for "unchanged". -/
abbrev NewFlags := Flag → Option Bool

/-- The status byte `q` is `p` with the flags `new`. -/
def flagsAre (new : NewFlags) (p q : Byte) : Prop := ∀ f, getFlag f q = (new f).getD (getFlag f p)

/-- `setZN(v)` (R11): Z and N, no other flag. -/
def znOf (v : Byte) : NewFlags
  | .Z => some (v == 0)
  | .N => some (v.getLsbD 7)
  | _ => none

/-- C together with `setZN(v)`. -/
def cznOf (c : Bool) (v : Byte) : NewFlags
  | .C => some c
  | f => znOf v f

/-- C, V and `setZN(v)`. -/
def cvznOf (c ov : Bool) (v : Byte) : NewFlags
  | .C => some c
  | .V => some ov
  | f => znOf v f

/-- One flag set to a value. -/
def oneFlag (g : Flag) (b : Bool) : NewFlags := fun f => if f = g then some b else none

/-- The integer sum of `ADC` (R221). -/
def addSum (a m : Byte) (c : Bool) : Nat := a.toNat + m.toNat + if c then 1 else 0

/-- `ADC` of `m` (R221): the result byte, and C, V, Z, N. V: the operands have one sign, the result
the other. -/
def addResult (a m : Byte) (c : Bool) : Byte := BitVec.ofNat 8 (addSum a m c)

/-- The flags of `ADC` (R221). -/
def addFlags (a m : Byte) (c : Bool) : NewFlags :=
  cvznOf (decide (0xFF < addSum a m c))
    (a.getLsbD 7 == m.getLsbD 7 && a.getLsbD 7 != (addResult a m c).getLsbD 7) (addResult a m c)

/-- The signed difference of `SBC` with carry `c` (R222): A - M - (1 - C). -/
def subDiff (a m : Byte) (c : Bool) : Int := a.toInt - m.toInt - if c then 0 else 1

/-- The result byte of `SBC` (R222): A - M - (1 - C) modulo 256. -/
def subResult (a m : Byte) (c : Bool) : Byte := BitVec.ofInt 8 (subDiff a m c)

/-- The flags of `SBC` (R222): C = no borrow, V = the signed result is outside -128..127. -/
def subFlags (a m : Byte) (c : Bool) : NewFlags :=
  cvznOf (decide (m.toNat + (if c then 0 else 1) ≤ a.toNat))
    (decide (subDiff a m c < -128 ∨ 127 < subDiff a m c)) (subResult a m c)

/-- The flags of a compare of `r` with `m` (R228): C = (r >= m), Z = (r == m), N = bit 7 of the
difference. -/
def compareFlags (r m : Byte) : NewFlags := cznOf (decide (m.toNat ≤ r.toNat)) (r - m)

/-- `BASE_CYCLES[op] + (1 if crossed and PENALTY[op] else 0)` (R131). -/
def instrCycles (i : Instr) (crossed : Bool) : Nat :=
  baseCycles i.opcode + if crossed && pagePenalty i.opcode then 1 else 0

/-- The end of an instruction that does not branch (R25, R131). -/
def finish (i : Instr) (crossed : Bool) (s : State) : State :=
  { s with pc := s.pc + BitVec.ofNat 16 i.length, cyc := s.cyc + instrCycles i crossed }

/-! ### Vocabulary: storage bytes and frames -/

/-- The storages of the machine (R39, R42, R60, R65). -/
inductive Space where
  | ram | prgRam | prgRom | vram | chr | oam | pal
deriving DecidableEq, Repr

/-- One byte of a storage. -/
def storageByte (sp : Space) (k : Nat) (s : State) : Byte :=
  match sp with
  | .ram => s.ram.get k
  | .prgRam => (s.cart.prgRam.getD []).get k
  | .prgRom => s.cart.prgRom.get k
  | .vram => s.vram.get k
  | .chr => s.cart.chr.get k
  | .oam => s.ppu.oam.get k
  | .pal => (palGet s.ppu.pal (BitVec.ofNat 5 k)).setWidth 8

/-- The storage bytes that `Wr(a, _)` stores to (R85, R106, R456, R634, R637, R710). -/
def storesTo (a : Word) (s : State) (sp : Space) (k : Nat) : Prop :=
  match writeDest a with
  | .ram o => sp = .ram ∧ k = o
  | .ppuReg n =>
    (n = 4 ∧ sp = .oam ∧ k = s.ppu.oamAddr.toNat) ∨
    (n = 7 ∧
      if s.ppu.vaddr.toNat ≤ 0x1FFF then
        s.cart.chrIsRam = true ∧ sp = .chr ∧ k = chrOffset s.cart s.mapper s.ppu.vaddr
      else if s.ppu.vaddr.toNat ≤ 0x3EFF then sp = .vram ∧ k = nametableOffset s s.ppu.vaddr
      else sp = .pal ∧
        paletteIndex (BitVec.ofNat 5 k) = paletteIndex (BitVec.ofNat 5 s.ppu.vaddr.toNat))
  | .oamDma => sp = .oam
  | .prgRam => s.mapper.prgRamEnabled = true ∧ sp = .prgRam ∧ k = prgRamOffset a
  | .strobe | .apuReg _ | .nowhere | .prgRom => False

/-- No register of a device, no storage and no register of the CPU differs, but for what a READ can
change (R113): `bus_latch`, five fields of the video unit, `frame_irq` and the two ports. -/
def devicesReadOnly (s t : State) : Prop :=
  t.ppu = { s.ppu with
    v := t.ppu.v, w := t.ppu.w, vblank := t.ppu.vblank, readBuf := t.ppu.readBuf,
    ioLatch := t.ppu.ioLatch } ∧
  t.apu = { s.apu with frameIrq := t.apu.frameIrq } ∧
  t.cart = s.cart ∧ t.mapper = s.mapper ∧ t.ram = s.ram ∧ t.vram = s.vram ∧
  t.ctlStrobe = s.ctlStrobe ∧ t.host = s.host ∧ t.nmiPending = s.nmiPending ∧ t.stall = s.stall

/-- The offset in work RAM of the byte that the stack pointer names (R24, R82), `STACK_BASE` being at
its default (R8, D4, log entry 1). -/
def stackOffset (sp : Byte) : Nat := 0x100 + sp.toNat

/-- The stores of an instruction executed at `s` (R112): at its effective address, or at the stack. -/
def instrStoresTo (i : Instr) (s : State) (sp : Space) (k : Nat) : Prop :=
  match i.mnemonic with
  | .STA | .STX | .STY | .SAX =>
    storesTo (resolve i.operand s).ea (resolve i.operand s).st sp k
  | .INC | .DEC | .ASL | .LSR | .ROL | .ROR | .SLO | .RLA | .SRE | .RRA | .DCP | .ISC =>
    i.operand ≠ .acc ∧
      storesTo (fetchOperand i.operand s).ea (fetchOperand i.operand s).st sp k
  | .PHA | .PHP => sp = .ram ∧ k = stackOffset s.sp
  | .JSR => sp = .ram ∧ (k = stackOffset s.sp ∨ k = stackOffset (s.sp - 1))
  | .BRK =>
    sp = .ram ∧ (k = stackOffset s.sp ∨ k = stackOffset (s.sp - 1) ∨ k = stackOffset (s.sp - 2))
  | _ => False

/-- The instructions that push (R12). -/
def pushers : List Mnemonic := [.PHA, .PHP, .JSR, .BRK]

/-- The instructions that write memory in their memory formats: the stores, the read-modify-writes
and the pushes (R112). -/
def storers : List Mnemonic :=
  pushers ++ [.STA, .STX, .STY, .SAX, .INC, .DEC, .ASL, .LSR, .ROL, .ROR, .SLO, .RLA, .SRE, .RRA,
    .DCP, .ISC]

/-- The instructions that may change a register (R21 to R24). -/
def writersOfA : List Mnemonic :=
  [.LDA, .LAX, .TXA, .TYA, .ADC, .SBC, .USBC, .AND, .ORA, .EOR, .ASL, .LSR, .ROL, .ROR, .PLA,
   .SLO, .RLA, .SRE, .RRA, .ISC]

/-- R22. -/
def writersOfX : List Mnemonic := [.LDX, .TAX, .TSX, .INX, .DEX, .LAX]

/-- R23. -/
def writersOfY : List Mnemonic := [.LDY, .TAY, .INY, .DEY]

/-- R24. -/
def writersOfS : List Mnemonic := [.TXS, .PHA, .PHP, .PLA, .PLP, .JSR, .RTS, .RTI, .BRK]

/-- The instructions that may change a flag (R27). -/
def writersOfFlag : Flag → List Mnemonic
  | .C =>
    [.ADC, .SBC, .USBC, .CMP, .CPX, .CPY, .ASL, .LSR, .ROL, .ROR, .SEC, .CLC, .PLP, .RTI, .SLO,
     .RLA, .SRE, .RRA, .DCP, .ISC]
  | .I => [.SEI, .CLI, .PLP, .RTI, .BRK]
  | .D => [.SED, .CLD, .PLP, .RTI]
  | .V => [.ADC, .SBC, .USBC, .BIT, .CLV, .PLP, .RTI, .RRA, .ISC]
  | .B | .U => []
  | .Z | .N =>
    [.LDA, .LDX, .LDY, .TAX, .TAY, .TXA, .TYA, .TSX, .PLA, .AND, .ORA, .EOR, .ADC, .SBC, .USBC,
     .INC, .DEC, .INX, .INY, .DEX, .DEY, .ASL, .LSR, .ROL, .ROR, .LAX, .SLO, .RLA, .SRE, .RRA, .ISC,
     .CMP, .CPX, .CPY, .DCP, .BIT, .PLP, .RTI]

/-! ### Vocabulary: runs of reads and ticks -/

/-- `n` bytes read with `Rd` at ascending addresses from `a`, and the state after the reads. -/
def readBytes : Nat → Word → State → List Byte × State
  | 0, _, s => ([], s)
  | n + 1, a, s =>
    let r := readBytes n (a + 1) (afterRd a s)
    (peek a s :: r.1, r.2)

/-- `n` reads of one address: the values in order, and the state after them. -/
def readsOf (a : Word) : Nat → State → List Byte × State
  | 0, s => ([], s)
  | n + 1, s =>
    let r := readsOf a n (afterRd a s)
    (peek a s :: r.1, r.2)

/-- `n` calls of `tick()`. -/
def ticks : Nat → State → State
  | 0, s => s
  | n + 1, s => ticks n (tick s)

/-- `tick()` at this position finds the last dot before the odd-frame skip (R482). -/
def skipsDot (p : Ppu) : Prop := p.scanline = 261 ∧ p.dot = 339 ∧ p.odd = true ∧ p.rendering = true

/-- The serial writes of variant 1 (R651), in order. -/
def serialWrites : List (Word × Byte) → Mapper → Mapper
  | [], m => m
  | (a, v) :: rest, m => serialWrites rest (m.writePrgRom a v)

/-- Bit 0 of five bytes, the first in bit 0 (R651). -/
def serialValue (v0 v1 v2 v3 v4 : Byte) : BitVec 5 :=
  BitVec.ofBool (v4.getLsbD 0) ++ BitVec.ofBool (v3.getLsbD 0) ++ BitVec.ofBool (v2.getLsbD 0) ++
    BitVec.ofBool (v1.getLsbD 0) ++ BitVec.ofBool (v0.getLsbD 0)

/-- `t` is reached from `s` by `n` steps. -/
def reaches : Nat → State → State → Prop
  | 0, s, t => t = s
  | n + 1, s, t => ∃ u, step s = .next u ∧ reaches n u t

/-! ### Vocabulary: the audio unit, over the integers -/

/-- `LENGTH_TABLE` (R562). -/
def lengthEntries : List Nat :=
  [10, 254, 20, 2, 40, 4, 80, 6, 160, 8, 60, 10, 14, 12, 26, 14, 12, 16, 24, 18, 48, 20, 96, 22,
   192, 24, 72, 26, 16, 28, 32, 30]

/-- `DUTY` (R565), a row the eight steps of a waveform. -/
def dutySteps : List (List Nat) :=
  [[0, 1, 0, 0, 0, 0, 0, 0], [0, 1, 1, 0, 0, 0, 0, 0], [0, 1, 1, 1, 1, 0, 0, 0],
   [1, 0, 0, 1, 1, 1, 1, 1]]

/-- `NOISE_PERIOD` (R570). -/
def noisePeriods : List Nat :=
  [4, 8, 16, 32, 64, 96, 128, 160, 202, 254, 380, 508, 762, 1016, 2034, 4068]

/-- `DMC_RATE` (R573). -/
def deltaRates : List Nat :=
  [428, 380, 340, 320, 286, 254, 226, 214, 190, 160, 142, 128, 106, 84, 72, 54]

/-- What a write of `d` with a length index makes of a length counter (R536, R540, R543, R562). -/
def lengthLoaded (d : Byte) (lc : LengthCounter) : LengthCounter :=
  if lc.enabled then { lc with len := BitVec.ofNat 8 (lengthEntries.getD (d.toNat / 8) 0) } else lc

/-- What a write of `d` to register `k` of a pulse channel makes of it (R533 to R536). -/
def pulseWritten (k : Nat) (d : Byte) (p : Pulse) : Pulse :=
  match k with
  | 0 =>
    { p with
      duty := BitVec.ofNat 2 (d.toNat / 64)
      env := { p.env with
        loop := d.getLsbD 5, constVol := d.getLsbD 4, vol := BitVec.ofNat 4 d.toNat } }
  | 1 =>
    { p with
      swEn := d.getLsbD 7, swPeriod := BitVec.ofNat 3 (d.toNat / 16), swNeg := d.getLsbD 3
      swShift := BitVec.ofNat 3 d.toNat, swReload := true }
  | 2 =>
    { p with timerPeriod := BitVec.ofNat 11 (p.timerPeriod.toNat / 256 * 256 + d.toNat) }
  | _ =>
    { p with
      timerPeriod := BitVec.ofNat 11 (d.toNat % 8 * 256 + p.timerPeriod.toNat % 256)
      lc := lengthLoaded d p.lc, seqPos := 0, env := { p.env with start := true } }

/-- `e'` is the envelope `e` after `env_clock` (R561). -/
def envelopeClocked (e e' : Envelope) : Prop :=
  e'.start = false ∧ e'.loop = e.loop ∧ e'.constVol = e.constVol ∧ e'.vol = e.vol ∧
  (e.start = true → e'.decay.toNat = 15 ∧ e'.div = e.vol) ∧
  (e.start = false → e.div.toNat = 0 → e'.div = e.vol ∧
    e'.decay.toNat =
      if 0 < e.decay.toNat then e.decay.toNat - 1 else if e.loop then 15 else 0) ∧
  (e.start = false → 0 < e.div.toNat → e'.div.toNat = e.div.toNat - 1 ∧ e'.decay = e.decay)

/-- `env_out` (R561). -/
def envelopeOut (e : Envelope) : Nat := if e.constVol then e.vol.toNat else e.decay.toNat

/-- The length counter after a half frame (R562). -/
def lengthClocked (halt : Bool) (lc : LengthCounter) : LengthCounter :=
  if halt = false ∧ 0 < lc.len.toNat then { lc with len := lc.len - 1 } else lc

/-- `sweep_target` (R563) before the cut at 0. -/
def sweepSum (isPulse1 : Bool) (p : Pulse) : Int :=
  let c : Int := p.timerPeriod.toNat / 2 ^ p.swShift.toNat
  if p.swNeg then p.timerPeriod.toNat - c - (if isPulse1 then 1 else 0) else p.timerPeriod.toNat + c

/-- `sweep_mute` (R563). -/
def sweepMutes (isPulse1 : Bool) (p : Pulse) : Prop :=
  p.timerPeriod.toNat < 8 ∨ 0x7FF < sweepSum isPulse1 p

/-- `p'` has the sweep divider, the reload flag and the period of `p` after `sweep_clock` (R563). -/
def sweepClocked (isPulse1 : Bool) (p p' : Pulse) : Prop :=
  let moves : Prop := p.swDiv.toNat = 0 ∧ p.swEn = true ∧ 0 < p.swShift.toNat ∧ ¬ sweepMutes isPulse1 p
  (moves → (p'.timerPeriod.toNat : Int) = max 0 (sweepSum isPulse1 p)) ∧
  (¬ moves → p'.timerPeriod = p.timerPeriod) ∧ p'.swReload = false ∧
  (p.swDiv.toNat = 0 ∨ p.swReload = true → p'.swDiv = p.swPeriod) ∧
  (0 < p.swDiv.toNat → p.swReload = false → p'.swDiv.toNat = p.swDiv.toNat - 1)

/-- The registers of a pulse channel that neither a frame step nor its timer changes. -/
def pulseKeeps (p p' : Pulse) : Prop :=
  p' = { p with
    env := p'.env, lc := p'.lc, timerPeriod := p'.timerPeriod, swDiv := p'.swDiv
    swReload := p'.swReload, timer := p'.timer, seqPos := p'.seqPos }

/-- The linear counter after a quarter frame (R568). -/
def linearClocked (t t' : Triangle) : Prop :=
  t'.lin.toNat = (if t.linReload then t.linLoad.toNat else t.lin.toNat - 1) ∧
  t'.linReload = (t.linReload && t.linCtrl)

/-- The output of a pulse channel (R565, R566). -/
def pulseLevel (isPulse1 : Bool) (p : Pulse) (level : Nat) : Prop :=
  let silent : Prop := p.lc.len.toNat = 0 ∨
    (dutySteps.getD p.duty.toNat []).getD p.seqPos.toNat 0 = 0 ∨ sweepMutes isPulse1 p
  (silent → level = 0) ∧ (¬ silent → level = envelopeOut p.env)

/-! ### Vocabulary: the picture, over the integers -/

/-- The parts of `v` and `t` (R465): tile column and row, table column and row, line in the tile. -/
def tileX (v : BitVec 15) : Nat := v.toNat % 32
/-- R465. -/
def tileY (v : BitVec 15) : Nat := v.toNat / 32 % 32
/-- R465. -/
def tableX (v : BitVec 15) : Nat := v.toNat / 1024 % 2
/-- R465. -/
def tableY (v : BitVec 15) : Nat := v.toNat / 2048 % 2
/-- R465. -/
def fineY (v : BitVec 15) : Nat := v.toNat / 4096

/-- The dots of a render line that fetch and shift (R481, R483). -/
abbrev fetchDot (d : Nat) : Prop := (1 ≤ d ∧ d ≤ 256) ∨ (321 ≤ d ∧ d ≤ 336)

/-- A byte of video memory. -/
def videoByte (s : State) (a : Nat) : Byte := ppuRd (BitVec.ofNat 14 a) s

/-- A shift register after a dot of phase `k` (R483, R485): one bit to the left, and at phase 7 the
low byte loaded. -/
def shifted (k : Nat) (r : BitVec 16) (load : Byte) (r' : BitVec 16) : Prop :=
  r'.toNat =
    if k = 7 then 2 * r.toNat % 65536 / 256 * 256 + load.toNat else 2 * r.toNat % 65536

/-- The background fetch of a dot (R483, R485): `t` is the video unit after it. -/
def backgroundFetched (s : State) (t : Ppu) : Prop :=
  let p := s.ppu
  let k := (p.dot - 1) % 8
  let table := p.v.toNat / 1024 % 4
  let pattern := (if p.ctrl.getLsbD 4 then 0x1000 else 0) + p.ntByte.toNat * 16 + fineY p.v
  let quadrant := tileY p.v / 2 % 2 * 4 + tileX p.v / 2 % 2 * 2
  let spread (k : Nat) : Byte := if p.atBits.getLsbD k then 0xFF else 0x00
  (fetchDot p.dot →
    t.ntByte = (if k = 0 then videoByte s (0x2000 + p.v.toNat % 0x1000) else p.ntByte) ∧
    t.atBits.toNat =
      (if k = 2 then
        (videoByte s (0x23C0 + table * 0x400 + tileY p.v / 4 * 8 + tileX p.v / 4)).toNat
          / 2 ^ quadrant % 4
      else p.atBits.toNat) ∧
    t.ptLo = (if k = 4 then videoByte s pattern else p.ptLo) ∧
    t.ptHi = (if k = 6 then videoByte s (pattern + 8) else p.ptHi) ∧
    shifted k p.bgLo p.ptLo t.bgLo ∧ shifted k p.bgHi p.ptHi t.bgHi ∧
    shifted k p.atLo (spread 0) t.atLo ∧ shifted k p.atHi (spread 1) t.atHi) ∧
  (¬ fetchDot p.dot →
    t.ntByte = p.ntByte ∧ t.atBits = p.atBits ∧ t.ptLo = p.ptLo ∧ t.ptHi = p.ptHi ∧
    t.bgLo = p.bgLo ∧ t.bgHi = p.bgHi ∧ t.atLo = p.atLo ∧ t.atHi = p.atHi)

/-- The scroll movements of a dot of a render line (R481, R484): `v` is the address after it. -/
def scrollMoved (p : Ppu) (v : BitVec 15) : Prop :=
  let right : Prop := fetchDot p.dot ∧ p.dot % 8 = 0
  let down : Prop := p.dot = 256
  let top : Prop := p.scanline = 261 ∧ 280 ≤ p.dot ∧ p.dot ≤ 304
  (p.dot = 257 → tileX v = tileX p.t ∧ tableX v = tableX p.t) ∧
  (right → tileX v = (tileX p.v + 1) % 32 ∧
    tableX v = if tileX p.v = 31 then 1 - tableX p.v else tableX p.v) ∧
  (p.dot ≠ 257 → ¬ right → tileX v = tileX p.v ∧ tableX v = tableX p.v) ∧
  (top → tileY v = tileY p.t ∧ tableY v = tableY p.t ∧ fineY v = fineY p.t) ∧
  (down → fineY v = (fineY p.v + 1) % 8 ∧
    tileY v = (if fineY p.v < 7 then tileY p.v
      else if tileY p.v = 29 ∨ tileY p.v = 31 then 0 else tileY p.v + 1) ∧
    tableY v = if fineY p.v = 7 ∧ tileY p.v = 29 then 1 - tableY p.v else tableY p.v) ∧
  (¬ top → ¬ down → tileY v = tileY p.v ∧ tableY v = tableY p.v ∧ fineY v = fineY p.v)

/-- The height of sprites (R487). -/
def spriteRows (p : Ppu) : Nat := if p.ctrl.getLsbD 5 then 16 else 8

/-- The sprites that cover the line after `line`, in the order of object memory (R487). -/
def spritesCovering (p : Ppu) (line : Nat) : List Nat :=
  (List.range 64).filter fun n =>
    decide ((p.oam.get (4 * n)).toNat ≤ line ∧ line < (p.oam.get (4 * n)).toNat + spriteRows p)

/-- The slot `sp` holds sprite `n` with the pattern of its row for the line after `line` (R488). -/
def spriteFetched (s : State) (line n : Nat) (sp : Sprite) : Prop :=
  let p := s.ppu
  let y := p.oam.get (4 * n)
  let tile := p.oam.get (4 * n + 1)
  let attr := p.oam.get (4 * n + 2)
  let row := if attr.getLsbD 7 then spriteRows p - 1 - (line - y.toNat) else line - y.toNat
  let a :=
    if p.ctrl.getLsbD 5 then
      tile.toNat % 2 * 0x1000 + (tile.toNat / 2 * 2 + row / 8) * 16 + row % 8
    else (if p.ctrl.getLsbD 3 then 0x1000 else 0) + tile.toNat * 16 + row
  sp.y = y ∧ sp.tile = tile ∧ sp.attr = attr ∧ sp.x = p.oam.get (4 * n + 3) ∧
  ∀ k < 8,
    sp.patLo.getLsbD k = (videoByte s a).getLsbD (if attr.getLsbD 6 then 7 - k else k) ∧
    sp.patHi.getLsbD k = (videoByte s (a + 8)).getLsbD (if attr.getLsbD 6 then 7 - k else k)

/-- The sprite evaluation of a dot of a render line (R487): `t` is the video unit after it. -/
def spritesEvaluated (s : State) (t : Ppu) : Prop :=
  let p := s.ppu
  let found := spritesCovering p p.scanline
  (p.dot ≠ 257 →
    t.slots = p.slots ∧ t.slotCount = p.slotCount ∧ t.slot0IsSpr0 = p.slot0IsSpr0 ∧
    t.sprOverflow = (p.sprOverflow && !(p.scanline == 261 && p.dot == 1))) ∧
  (p.dot = 257 → p.scanline = 261 →
    t.slots = p.slots ∧ t.slotCount = 0 ∧ t.slot0IsSpr0 = false ∧ t.sprOverflow = p.sprOverflow) ∧
  (p.dot = 257 → p.scanline ≤ 239 →
    t.slotCount = min 8 found.length ∧ t.slot0IsSpr0 = (found.head? == some 0) ∧
    t.sprOverflow = (p.sprOverflow || decide (8 < found.length)) ∧
    ∀ i : Fin 8,
      (i.val < found.length → spriteFetched s p.scanline (found.getD i.val 0) (t.slots.get i)) ∧
      (found.length ≤ i.val → t.slots.get i = p.slots.get i))

/-- A pixel value from its two bit planes. -/
def twoBits (hi lo : Bool) : Nat := (if hi then 2 else 0) + if lo then 1 else 0

/-- The background pixel at column `x` and its palette (R486). -/
def backgroundPixel (p : Ppu) (x : Nat) : Nat × Nat :=
  let b := 15 - p.fineX.toNat
  if p.mask.getLsbD 3 = true ∧ (8 ≤ x ∨ p.mask.getLsbD 1 = true) then
    (twoBits (p.bgHi.getLsbD b) (p.bgLo.getLsbD b), twoBits (p.atHi.getLsbD b) (p.atLo.getLsbD b))
  else (0, 0)

/-- The pixel of a slot at column `x` (R489). -/
def slotPixel (sp : Sprite) (x : Nat) : Nat :=
  let b := sp.x.toNat + 7 - x
  if sp.x.toNat ≤ x ∧ x ≤ sp.x.toNat + 7 then twoBits (sp.patHi.getLsbD b) (sp.patLo.getLsbD b) else 0

/-- The slot whose sprite is seen at column `x` (R489). -/
def slotSeen (p : Ppu) (x : Nat) : Option (Fin 8) :=
  if p.mask.getLsbD 4 = true ∧ (8 ≤ x ∨ p.mask.getLsbD 2 = true) then
    (List.finRange 8).find? fun i =>
      decide (i.val < p.slotCount ∧ slotPixel (p.slots.get i) x ≠ 0)
  else none

/-- The palette entry drawn at column `x` while rendering (R490). -/
def entryDrawn (p : Ppu) (x : Nat) : Nat :=
  let bg := backgroundPixel p x
  match slotSeen p x with
  | none => if bg.1 = 0 then 0 else 4 * bg.2 + bg.1
  | some i =>
    let sp := p.slots.get i
    if bg.1 ≠ 0 ∧ sp.attr.getLsbD 5 = true then 4 * bg.2 + bg.1
    else 4 * (4 + sp.attr.toNat % 4) + slotPixel sp x

/-- The pixel at column `x` is a sprite-zero hit (R491). -/
def hitsSpriteZero (p : Ppu) (x : Nat) : Bool :=
  decide ((backgroundPixel p x).1 ≠ 0 ∧ slotSeen p x = some 0 ∧ p.slot0IsSpr0 = true ∧ x ≠ 255)

end Sys2Proof.Machine

section Statements
open Sys2Proof Sys2Proof.Machine

/-- Twelve instructions, one or more of each family, with their bytes written out from the opcode
matrix and the operand layout (low byte of a 16-bit operand first), decode to the instruction they
stand for. (R110, R130, R132, R156) -/
def Obligations.DecodeWrittenWords : Prop :=
  decode [0xA9, 0x80] = .ok (.ldaImm 0x80, []) ∧
  decode [0xBD, 0xFF, 0x10] = .ok (.ldaAbx 0x10FF, []) ∧
  decode [0x91, 0x10] = .ok (.staIzy 0x10, []) ∧
  decode [0x61, 0x20] = .ok (.adcIzx 0x20, []) ∧
  decode [0x0A] = .ok (.aslAcc, []) ∧
  decode [0x6C, 0xFF, 0x02] = .ok (.jmpInd 0x02FF, []) ∧
  decode [0xD0, 0xFB] = .ok (.bne 0xFB, []) ∧
  decode [0x00] = .ok (.brk, []) ∧
  decode [0x48] = .ok (.pha, []) ∧
  decode [0xB7, 0x10] = .ok (.laxZpy 0x10, []) ∧
  decode [0x1C, 0xFF, 0x02] = .ok (.unopAbx1C 0x02FF, []) ∧
  decode [0x9B, 0x00, 0x03] = .ok (.unaAby9B 0x0300, [])

/-- For every instruction, with every operand value, decoding its bytes followed by any bytes gives
the instruction and those following bytes: no bit of an operand is lost and no two instructions
share bytes. (R130, R132, R156, R163, R164) -/
def Obligations.DecodeOfEncode : Prop :=
  ∀ (i : Instr) (rest : List Byte), decode (encode i ++ rest) = .ok (i, rest)

/-- Whatever bytes stand there, if they decode then they are the encoding of the instruction followed
by the rest; and three bytes always decode, the first byte being the opcode, which alone fixes the
mnemonic and the length of 1 to 3 bytes. (R130, R134, R163, R164) -/
def Obligations.EncodeOfDecode : Prop :=
  (∀ (bs rest : List Byte) (i : Instr), decode bs = .ok (i, rest) → bs = encode i ++ rest) ∧
  (∀ op b1 b2 c1 c2 : Byte, ∃ i j : Instr,
    decode [op, b1, b2] = .ok (i, [b1, b2].drop (i.length - 1)) ∧
    decode [op, c1, c2] = .ok (j, [c1, c2].drop (j.length - 1)) ∧
    i.opcode = op ∧ j.opcode = op ∧ j.mnemonic = i.mnemonic ∧ j.length = i.length ∧
    1 ≤ i.length ∧ i.length ≤ 3)

/-- Every opcode byte belongs to exactly one of the three classes, and the classes have 151, 80 and 25
members. (R317) -/
def Obligations.OpcodeClassCounts : Prop :=
  let classOf (n : Nat) : Option OpcodeClass :=
    match decode [BitVec.ofNat 8 n, 0, 0] with
    | .ok (i, _) => some i.opcodeClass
    | .error _ => none
  let count (c : OpcodeClass) : Nat := ((List.range 256).filter (fun n => classOf n == some c)).length
  count .documented = 151 ∧ count .undocumented = 80 ∧ count .unassigned = 25

/-- With no interrupt to take, when the bytes that Rd returns at PC, PC + 1, ... decode to instruction
i, a step is exec of i in the state after those reads, followed by the catch-up of the devices:
owed stall cycles join the cycle counter, and the devices make one pass per cycle that passed:
three video ticks, then one audio clock. (R130, R131, R404, R700, R702) -/
def Obligations.StepRunsTheDecodedInstruction : Prop :=
  ∀ (s : State) (i : Instr), poll s = none →
    decode (readBytes i.length s.pc s).1 = .ok (i, []) →
    step s = (match exec i (readBytes i.length s.pc s).2 with
      | .next t =>
        .next (runDevices (t.cyc - s.cyc + t.stall) { t with cyc := t.cyc + t.stall, stall := 0 })
      | .fault f => .fault f
      | .refused r => .refused r) ∧
    runDevices 0 s = s ∧ (∀ n, runDevices (n + 1) s = runDevices n (devicePass s)) ∧
    devicePass s = clock (tick (tick (tick s)))

/-- Every instruction in every state has a next state, and so has every step; a step advances the
cycle counter by at least 2. (R131, R156, R401, R410) -/
def Obligations.NoInstructionFaults : Prop :=
  (∀ (i : Instr) (s : State), ∃ t, exec i s = .next t) ∧
  (∀ s : State, ∃ t, step s = .next t ∧ s.cyc + 2 ≤ t.cyc)

/-- Zero-page formats wrap in page zero; absolute indexed formats wrap modulo 2^16 and report a page
crossing when the high byte changes; the pointers of the indirect formats come from page zero
(wrapping there), the pointer of JMP (ind) takes its high byte from the same page; a branch offset
is signed from the next instruction. The operand of the immediate format is its byte, at PC + 1,
already read; that of the accumulator format (R141) is A; that of a memory format is the byte Rd
returns at the address. Only the indexed absolute and the indirect-indexed formats cross a page.
(R142, R143, R144, R145, R146, R147, R148, R149, R150, R151, R152, R154) -/
def Obligations.EffectiveAddresses : Prop :=
  ∀ (s : State) (z : Byte) (w : Word),
    (resolve (.zp z) s).ea.toNat = z.toNat ∧
    (resolve (.zpx z) s).ea.toNat = (z.toNat + s.x.toNat) % 256 ∧
    (resolve (.zpy z) s).ea.toNat = (z.toNat + s.y.toNat) % 256 ∧
    (resolve (.abs w) s).ea = w ∧
    (resolve (.abx w) s).ea.toNat = (w.toNat + s.x.toNat) % 65536 ∧
    ((resolve (.abx w) s).crossed = true ↔
      (w.toNat + s.x.toNat) % 65536 / 256 ≠ w.toNat / 256) ∧
    (resolve (.aby w) s).ea.toNat = (w.toNat + s.y.toNat) % 65536 ∧
    ((resolve (.aby w) s).crossed = true ↔
      (w.toNat + s.y.toNat) % 65536 / 256 ≠ w.toNat / 256) ∧
    (let p := (z.toNat + s.x.toNat) % 256
     (resolve (.izx z) s).ea.toNat
      = (s.ram.get p).toNat + 256 * (s.ram.get ((p + 1) % 256)).toNat) ∧
    (let base := (s.ram.get z.toNat).toNat + 256 * (s.ram.get ((z.toNat + 1) % 256)).toNat
     (resolve (.izy z) s).ea.toNat = (base + s.y.toNat) % 65536 ∧
     ((resolve (.izy z) s).crossed = true ↔ (base + s.y.toNat) % 65536 / 256 ≠ base / 256)) ∧
    (let second : Word := BitVec.ofNat 16 (w.toNat / 256 * 256 + (w.toNat + 1) % 256)
     (resolve (.ind w) s).ea.toNat
      = (peek w s).toNat + 256 * (peek second (afterRd w s)).toNat) ∧
    ((resolve (.rel z) s).ea.toNat : Int) = (s.pc.toNat + 2 + z.toInt) % 65536 ∧
    (∀ o : Operand, (resolve o s).crossed = true →
      (∃ v, o = .abx v) ∨ (∃ v, o = .aby v) ∨ ∃ y, o = .izy y) ∧
    ((resolve (.imm z) s).ea = s.pc + 1 ∧ (fetchOperand (.imm z) s).ea = s.pc + 1 ∧
      (fetchOperand (.imm z) s).value = z ∧ (fetchOperand (.imm z) s).crossed = false ∧
      (fetchOperand (.imm z) s).st = s) ∧
    ((fetchOperand .acc s).value = s.a ∧ (fetchOperand .acc s).crossed = false ∧
      (fetchOperand .acc s).st = s) ∧
    (∀ o : Operand, o ≠ .acc → (∀ b, o ≠ .imm b) →
      (fetchOperand o s).ea = (resolve o s).ea ∧
      (fetchOperand o s).crossed = (resolve o s).crossed ∧
      (fetchOperand o s).value = peek (resolve o s).ea (resolve o s).st ∧
      (fetchOperand o s).st = afterRd (resolve o s).ea (resolve o s).st)

/-- A load puts the operand byte in its register (LAX in A and X), sets Z and N from it, leaves every
other flag and register, and ends at the next instruction with the cycles of its opcode plus one
when it crossed a page and the opcode takes the penalty. LAX is implemented at the default of
UNDOC_SET (R8, D8, log entries 1 and 11). (R131, R154, R200, R201, R202, R203, R306) -/
def Obligations.LoadsPutTheByteInTheirRegister : Prop :=
  ∀ (i : Instr) (s : State),
    let m := fetchOperand i.operand s
    ∃ q, flagsAre (znOf m.value) s.p q ∧
      (i.mnemonic = .LDA → exec i s = .next (finish i m.crossed { m.st with a := m.value, p := q })) ∧
      (i.mnemonic = .LDX → exec i s = .next (finish i m.crossed { m.st with x := m.value, p := q })) ∧
      (i.mnemonic = .LDY → exec i s = .next (finish i m.crossed { m.st with y := m.value, p := q })) ∧
      (i.mnemonic = .LAX →
        exec i s = .next (finish i m.crossed { m.st with a := m.value, x := m.value, p := q }))

/-- The accumulator becomes the bitwise and, or, exclusive or of itself and the operand byte; Z and N
follow the result; C, V and everything else stay. (R131, R220, R225, R226, R227) -/
def Obligations.LogicInstructions : Prop :=
  ∀ (i : Instr) (s : State),
    let m := fetchOperand i.operand s
    ∀ r : Byte,
      (i.mnemonic = .AND ∧ r = s.a &&& m.value) ∨ (i.mnemonic = .ORA ∧ r = s.a ||| m.value) ∨
        (i.mnemonic = .EOR ∧ r = s.a ^^^ m.value) →
      ∃ q, flagsAre (znOf r) s.p q ∧
        exec i s = .next (finish i m.crossed { m.st with a := r, p := q })

/-- A becomes A + M + C modulo 256, C whether the sum exceeds 255, V whether the operands have one
sign and the result the other, Z and N from the result; no value of the D flag changes this.
(R131, R220, R221, R223, R224) -/
def Obligations.AddWithCarry : Prop :=
  ∀ (i : Instr) (s : State),
    let m := fetchOperand i.operand s
    i.mnemonic = .ADC →
      ∃ q, flagsAre (addFlags s.a m.value (getFlag .C s.p)) s.p q ∧
        exec i s = .next (finish i m.crossed
          { m.st with a := addResult s.a m.value (getFlag .C s.p), p := q })

/-- A becomes A - M - (1 - C) modulo 256; C is 1 iff there is no borrow, V is 1 iff the signed result
is outside -128..127, Z and N from the result; binary whatever D is; USBC is the same. USBC is
implemented at the default of UNDOC_SET (R8, D8, log entries 1 and 11). (R131, R220, R222, R223,
R224, R314) -/
def Obligations.SubtractWithBorrow : Prop :=
  ∀ (i : Instr) (s : State),
    let m := fetchOperand i.operand s
    i.mnemonic = .SBC ∨ i.mnemonic = .USBC →
      ∃ q, flagsAre (subFlags s.a m.value (getFlag .C s.p)) s.p q ∧
        exec i s = .next (finish i m.crossed
          { m.st with a := subResult s.a m.value (getFlag .C s.p), p := q })

/-- A compare sets C iff the register is at least the operand (unsigned), Z iff they are equal, N to
bit 7 of the 8-bit difference, and changes no register; BIT sets Z from A and M, N and V from bits
7 and 6 of M. (R131, R220, R228, R229, R230, R231) -/
def Obligations.CompareInstructions : Prop :=
  ∀ (i : Instr) (s : State),
    let m := fetchOperand i.operand s
    (∀ r : Byte,
      (i.mnemonic = .CMP ∧ r = s.a) ∨ (i.mnemonic = .CPX ∧ r = s.x) ∨
        (i.mnemonic = .CPY ∧ r = s.y) →
      ∃ q, flagsAre (compareFlags r m.value) s.p q ∧ (getFlag .Z q = true ↔ r = m.value) ∧
        exec i s = .next (finish i m.crossed { m.st with p := q })) ∧
    (i.mnemonic = .BIT →
      ∃ q, (∀ f, getFlag f q =
          match f with
          | .Z => s.a &&& m.value == 0
          | .N => m.value.getLsbD 7
          | .V => m.value.getLsbD 6
          | f => getFlag f s.p) ∧
        exec i s = .next (finish i m.crossed { m.st with p := q }))

/-- The byte at the effective address is read once and written once with one more or one less modulo
256; Z and N follow the written byte; C and V stay. (R112, R131, R220, R232, R233) -/
def Obligations.IncrementAndDecrementMemory : Prop :=
  ∀ (i : Instr) (s : State),
    let m := fetchOperand i.operand s
    ∀ r : Byte,
      (i.mnemonic = .INC ∧ r.toNat = (m.value.toNat + 1) % 256) ∨
        (i.mnemonic = .DEC ∧ r.toNat = (m.value.toNat + 255) % 256) →
      ∃ q, flagsAre (znOf r) s.p q ∧
        exec i s = .next (finish i m.crossed { wr m.ea r m.st with p := q })

/-- The result is the operand moved by exactly one bit; ROL and ROR bring the old carry in at the free
end, ASL and LSR a 0; C is the bit that left, Z and N follow the result, V, I and D stay. The
accumulator format changes A and touches no memory, the memory formats write the result to the
address that was read. (R131, R250, R251, R252, R253, R254) -/
def Obligations.ShiftsAndRotates : Prop :=
  ∀ (i : Instr) (s : State),
    let m := fetchOperand i.operand s
    let cin := getFlag .C s.p
    ∀ (r : Byte) (cout : Bool),
      (i.mnemonic = .ASL ∧ cout = m.value.getLsbD 7 ∧
        ∀ k < 8, r.getLsbD k = if k = 0 then false else m.value.getLsbD (k - 1)) ∨
      (i.mnemonic = .ROL ∧ cout = m.value.getLsbD 7 ∧
        ∀ k < 8, r.getLsbD k = if k = 0 then cin else m.value.getLsbD (k - 1)) ∨
      (i.mnemonic = .LSR ∧ cout = m.value.getLsbD 0 ∧
        ∀ k < 8, r.getLsbD k = if k = 7 then false else m.value.getLsbD (k + 1)) ∨
      (i.mnemonic = .ROR ∧ cout = m.value.getLsbD 0 ∧
        ∀ k < 8, r.getLsbD k = if k = 7 then cin else m.value.getLsbD (k + 1)) →
      ∃ q, flagsAre (cznOf cout r) s.p q ∧
        (i.operand = .acc → m.value = s.a ∧ exec i s = .next (finish i false { s with a := r, p := q })) ∧
        (i.operand ≠ .acc → exec i s = .next (finish i m.crossed { wr m.ea r m.st with p := q }))

/-- Each moves or counts one register modulo 256, sets Z and N from the new value (TXS sets no flag),
takes two cycles and one byte, and changes nothing else: no memory, no device, no other register.
(R207, R208, R209, R210, R211, R212, R234, R235, R236, R237) -/
def Obligations.TransfersAndCounts : Prop :=
  ∀ s : State,
    let done (t : State) : Result := .next { t with pc := s.pc + 1, cyc := s.cyc + 2 }
    let zn (v q : Byte) : Prop := flagsAre (znOf v) s.p q
    (encode .tax = [0xAA] ∧ ∃ q, zn s.a q ∧ exec .tax s = done { s with x := s.a, p := q }) ∧
    (encode .tay = [0xA8] ∧ ∃ q, zn s.a q ∧ exec .tay s = done { s with y := s.a, p := q }) ∧
    (encode .txa = [0x8A] ∧ ∃ q, zn s.x q ∧ exec .txa s = done { s with a := s.x, p := q }) ∧
    (encode .tya = [0x98] ∧ ∃ q, zn s.y q ∧ exec .tya s = done { s with a := s.y, p := q }) ∧
    (encode .tsx = [0xBA] ∧ ∃ q, zn s.sp q ∧ exec .tsx s = done { s with x := s.sp, p := q }) ∧
    (encode .txs = [0x9A] ∧ exec .txs s = done { s with sp := s.x }) ∧
    (encode .inx = [0xE8] ∧ ∃ q r : Byte, r.toNat = (s.x.toNat + 1) % 256 ∧ zn r q ∧
      exec .inx s = done { s with x := r, p := q }) ∧
    (encode .iny = [0xC8] ∧ ∃ q r : Byte, r.toNat = (s.y.toNat + 1) % 256 ∧ zn r q ∧
      exec .iny s = done { s with y := r, p := q }) ∧
    (encode .dex = [0xCA] ∧ ∃ q r : Byte, r.toNat = (s.x.toNat + 255) % 256 ∧ zn r q ∧
      exec .dex s = done { s with x := r, p := q }) ∧
    (encode .dey = [0x88] ∧ ∃ q r : Byte, r.toNat = (s.y.toNat + 255) % 256 ∧ zn r q ∧
      exec .dey s = done { s with y := r, p := q })

/-- A store performs exactly one write of its register (SAX: A and X) to its effective address, after
the pointer reads of its format and no data read, changes no flag and no register, and takes no
page-cross cycle. SAX is implemented at the default of UNDOC_SET (R8, D8, log entries 1 and 11).
(R112, R131, R154, R200, R204, R205, R206, R307) -/
def Obligations.StoresWriteTheirAddress : Prop :=
  ∀ (i : Instr) (s : State) (v : Byte),
    (i.mnemonic = .STA ∧ v = s.a) ∨ (i.mnemonic = .STX ∧ v = s.x) ∨ (i.mnemonic = .STY ∧ v = s.y) ∨
      (i.mnemonic = .SAX ∧ v = s.a &&& s.x) →
    pagePenalty i.opcode = false ∧
    exec i s = .next (finish i false (wr (resolve i.operand s).ea v (resolve i.operand s).st))

/-- Each sets or clears its one flag in two cycles and changes nothing else. (R285, R290, R291, R292,
R293, R294, R295, R296) -/
def Obligations.FlagInstructions : Prop :=
  ∀ s : State,
    let sets (i : Instr) (op : Byte) (f : Flag) (b : Bool) : Prop :=
      encode i = [op] ∧ ∃ q, flagsAre (oneFlag f b) s.p q ∧
        exec i s = .next { s with p := q, pc := s.pc + 1, cyc := s.cyc + 2 }
    sets .clc 0x18 .C false ∧ sets .sec 0x38 .C true ∧ sets .cli 0x58 .I false ∧
    sets .sei 0x78 .I true ∧ sets .cld 0xD8 .D false ∧ sets .sed 0xF8 .D true ∧
    sets .clv 0xB8 .V false

/-- A no-operation changes no register and no flag; the formats with a memory operand perform its read
and discard it (NOP_OPERAND_READ, at its default; the forms of the unassigned bytes are
UNASSIGNED_FORM, and the UNOP bytes in UNDOC_SET, at their defaults: R8, D8, D9, D11, log entries
1 and 11), the IMP and IMM formats touch nothing. It ends at the next instruction with the cycles
of its opcode. (R131, R154, R162, R297, R315, R316) -/
def Obligations.NoOperations : Prop :=
  ∀ (i : Instr) (s : State), i.mnemonic = .NOP ∨ i.mnemonic = .UNOP ∨ i.mnemonic = .UNA →
    (i.operand = .imp ∨ (∃ b, i.operand = .imm b) → exec i s = .next (finish i false s)) ∧
    (i.operand ≠ .imp → (∀ b, i.operand ≠ .imm b) →
      exec i s = .next (finish i (resolve i.operand s).crossed
        (afterRd (resolve i.operand s).ea (resolve i.operand s).st)))

/-- Each reads its address once, writes the shifted, rotated, decremented or incremented byte r once,
and performs the accumulator operation on r: ORA, AND, EOR, ADC with the carry of the rotate, CMP,
SBC. C is the bit that left the shift where the accumulator operation sets no C. All six are
implemented at the default of UNDOC_SET (R8, D8, log entries 1 and 11). (R131, R305, R308, R309,
R310, R311, R312, R313) -/
def Obligations.CombinedReadModifyWrite : Prop :=
  ∀ (i : Instr) (s : State),
    let m := fetchOperand i.operand s
    let cin := getFlag .C s.p
    let finished (r a q : Byte) : Result :=
      .next (finish i m.crossed { wr m.ea r m.st with a := a, p := q })
    (i.mnemonic = .SLO → ∃ r q, r.toNat = 2 * m.value.toNat % 256 ∧
      flagsAre (cznOf (m.value.getLsbD 7) (s.a ||| r)) s.p q ∧ exec i s = finished r (s.a ||| r) q) ∧
    (i.mnemonic = .RLA → ∃ r q, r.toNat = (2 * m.value.toNat + if cin then 1 else 0) % 256 ∧
      flagsAre (cznOf (m.value.getLsbD 7) (s.a &&& r)) s.p q ∧ exec i s = finished r (s.a &&& r) q) ∧
    (i.mnemonic = .SRE → ∃ r q, r.toNat = m.value.toNat / 2 ∧
      flagsAre (cznOf (m.value.getLsbD 0) (s.a ^^^ r)) s.p q ∧ exec i s = finished r (s.a ^^^ r) q) ∧
    (i.mnemonic = .RRA → ∃ r q, r.toNat = m.value.toNat / 2 + (if cin then 128 else 0) ∧
      flagsAre (addFlags s.a r (m.value.getLsbD 0)) s.p q ∧
      exec i s = finished r (addResult s.a r (m.value.getLsbD 0)) q) ∧
    (i.mnemonic = .DCP → ∃ r q, r.toNat = (m.value.toNat + 255) % 256 ∧
      flagsAre (compareFlags s.a r) s.p q ∧ exec i s = finished r s.a q) ∧
    (i.mnemonic = .ISC → ∃ r q, r.toNat = (m.value.toNat + 1) % 256 ∧
      flagsAre (subFlags s.a r cin) s.p q ∧ exec i s = finished r (subResult s.a r cin) q)

/-- PHA writes A, PHP the status byte with bits 5 and 4 set, to work RAM at 0x100 + S; S goes down by
one modulo 256; three cycles; no flag and nothing else changes. (R24, R285, R286, R287) -/
def Obligations.PushInstructions : Prop :=
  ∀ s : State,
    (encode .pha = [0x48] ∧
      exec .pha s = .next { s with
        ram := s.ram.set (0x100 + s.sp.toNat) s.a, sp := s.sp - 1, pc := s.pc + 1, cyc := s.cyc + 3 }) ∧
    (encode .php = [0x08] ∧ ∃ b, (∀ f, getFlag f b = (f == .B || f == .U || getFlag f s.p)) ∧
      exec .php s = .next { s with
        ram := s.ram.set (0x100 + s.sp.toNat) b, sp := s.sp - 1, pc := s.pc + 1, cyc := s.cyc + 3 })

/-- S goes up by one modulo 256 and the byte there is pulled: PLA puts it in A and sets Z and N; PLP
takes six flags from it, bits 5 and 4 of it being ignored (U reads 1, B reads 0); four cycles.
From a state whose RAM and P are as the invariant says, PLP after PHP gives back P and S. (R28,
R285, R288, R289) -/
def Obligations.PullInstructions : Prop :=
  (∀ s : State,
    let m := s.ram.get (0x100 + (s.sp + 1).toNat)
    (∃ q, flagsAre (znOf m) s.p q ∧ exec .pla s = .next { s with
      a := m, p := q, sp := s.sp + 1, busLatch := m, pc := s.pc + 1, cyc := s.cyc + 4 }) ∧
    (∃ q, (∀ f, getFlag f q = (f == .U || (f != .B && getFlag f m))) ∧
      exec .plp s = .next { s with
        p := q, sp := s.sp + 1, busLatch := m, pc := s.pc + 1, cyc := s.cyc + 4 })) ∧
  (∀ s t u : State, s.ram.wf = true → pOk s.p = true → exec .php s = .next t →
    exec .plp t = .next u → u.p = s.p ∧ u.sp = s.sp)

/-- JMP sets PC to the operand, or to the pointer read at the operand, whose high byte comes from the
same page; no flag, no stack, nothing else but the reads of the pointer. Three and five cycles.
(R149, R260, R261) -/
def Obligations.JumpInstructions : Prop :=
  ∀ (s : State) (w : Word),
    exec (.jmpAbs w) s = .next { s with pc := w, cyc := s.cyc + 3 } ∧
    (let second : Word := BitVec.ofNat 16 (w.toNat / 256 * 256 + (w.toNat + 1) % 256)
     let t := afterRd w s
     ∃ target : Word,
      target.toNat = (peek w s).toNat + 256 * (peek second t).toNat ∧
      exec (.jmpInd w) s = .next { afterRd second t with pc := target, cyc := s.cyc + 5 })

/-- JSR writes the high byte of PC + 2 at the stack pointer and the low byte below it, goes to its
operand; RTS pulls low then high and continues one after. Six cycles each, no flag changes. The
stack page wraps. (R24, R110, R263, R264) -/
def Obligations.CallAndReturn : Prop :=
  ∀ (s : State) (w : Word),
    exec (.jsrAbs w) s = .next { s with
      ram := (s.ram.set (stackOffset s.sp) (BitVec.ofNat 8 ((s.pc + 2).toNat / 256))).set
        (stackOffset (s.sp - 1)) (BitVec.ofNat 8 (s.pc + 2).toNat)
      sp := s.sp - 2, pc := w, cyc := s.cyc + 6 } ∧
    (let l := s.ram.get (stackOffset (s.sp + 1))
     let h := s.ram.get (stackOffset (s.sp + 2))
     exec .rts s = .next { s with
      sp := s.sp + 2, busLatch := h, pc := BitVec.ofNat 16 (l.toNat + 256 * h.toNat + 1)
      cyc := s.cyc + 6 })

/-- In a state whose work RAM is in canonical form, running RTS in the state that JSR left continues
at the address after the three bytes of the JSR, with S, A, X, Y and P as before, for every S (the
stack wraps). (R263, R264, R276) -/
def Obligations.ReturnAfterCall : Prop :=
  ∀ (s t u : State) (w : Word), s.ram.wf = true → exec (.jsrAbs w) s = .next t →
    exec .rts t = .next u →
    u.pc = s.pc + 3 ∧ u.sp = s.sp ∧ u.a = s.a ∧ u.x = s.x ∧ u.y = s.y ∧ u.p = s.p

/-- RTI takes P from the byte above S with bits 5 and 4 ignored, then PC from the next two, with no
one added; six cycles; S goes up by three. (R28, R265, R414) -/
def Obligations.ReturnFromInterrupt : Prop :=
  ∀ s : State,
    let m := s.ram.get (stackOffset (s.sp + 1))
    let l := s.ram.get (stackOffset (s.sp + 2))
    let h := s.ram.get (stackOffset (s.sp + 3))
    ∃ q, (∀ f, getFlag f q = (f == .U || (f != .B && getFlag f m))) ∧
      exec .rti s = .next { s with
        p := q, sp := s.sp + 3, busLatch := h, pc := BitVec.ofNat 16 (l.toNat + 256 * h.toNat)
        cyc := s.cyc + 6 }

/-- The entry pushes the high and low byte of the return address (PC, for BRK PC + 2) and the status
byte with U set and B set only for BRK, sets I, changes no other flag, goes to the word at 0xFFFA
(NMI) or 0xFFFE (IRQ, BRK) read through the mapper, low byte first, and takes 7 cycles; an NMI
clears its pending bit. Nothing else changes. The vectors and the 7 cycles are VEC_NMI, VEC_IRQ
and CYC_INTERRUPT at their defaults (R8, D3, D13, log entry 1). (R28, R93, R266, R402, R405, R410) -/
def Obligations.TrapEntry : Prop :=
  ∀ s : State,
    let enter (v ret : Word) (b nmi : Bool) (cycles : Nat) (t : State) : Prop :=
      ∃ pushed q, (∀ f, getFlag f pushed = if f = .B then b else f == .U || getFlag f s.p) ∧
        flagsAre (oneFlag .I true) s.p q ∧
        (let high := readPrgRom s.cart s.mapper (v + 1)
         t = { s with
          ram := ((s.ram.set (stackOffset s.sp) (hi ret)).set (stackOffset (s.sp - 1)) (lo ret)).set
            (stackOffset (s.sp - 2)) pushed
          sp := s.sp - 3, p := q, nmiPending := nmi, busLatch := high
          pc := word high (readPrgRom s.cart s.mapper v), cyc := s.cyc + cycles })
    (∃ t, enter 0xFFFA s.pc false false 7 t ∧ interrupt .nmi s = t) ∧
    (∃ t, enter 0xFFFE s.pc false s.nmiPending 7 t ∧ interrupt .irq s = t) ∧
    (encode .brk = [0x00] ∧ ∃ t, enter 0xFFFE (s.pc + 2) true s.nmiPending 7 t ∧
      exec .brk s = .next t)

/-- A step with an NMI pending enters the NMI, whatever I and the IRQ line are; with none pending, a
raised IRQ line and I clear it enters the IRQ; with I set a raised line changes nothing and the
instruction runs as with the line low. The line is the frame interrupt or the delta interrupt.
(R403, R404, R405, R406, R407, R409, R611) -/
def Obligations.InterruptPoll : Prop :=
  ∀ s : State,
    s.irqLine = (s.apu.frameIrq || s.apu.dmc.dmcIrq) ∧
    (s.nmiPending = true → step s = .next (catchUp s.cyc (interrupt .nmi s))) ∧
    (s.nmiPending = false → s.irqLine = true → getFlag .I s.p = false →
      step s = .next (catchUp s.cyc (interrupt .irq s))) ∧
    (s.nmiPending = false → s.irqLine = false ∨ getFlag .I s.p = true →
      ∃ t, exec (fetchInstr s).instr (fetchInstr s).st = .next t ∧
        step s = .next (catchUp s.cyc t))

/-- In a state whose work RAM is canonical and whose P has U set and B clear, RTI right after the
entry of an NMI or IRQ continues at the interrupted PC with P (so also I) and S as before, and
right after BRK at PC + 2. (R28, R265, R266, R410, R414) -/
def Obligations.ReturnAfterTrap : Prop :=
  ∀ s u : State, s.ram.wf = true → pOk s.p = true →
    (∀ k : TrapKind, k = .nmi ∨ k = .irq → exec .rti (interrupt k s) = .next u →
      u.pc = s.pc ∧ u.p = s.p ∧ u.sp = s.sp ∧ u.a = s.a ∧ u.x = s.x ∧ u.y = s.y) ∧
    (∀ t, exec .brk s = .next t → exec .rti t = .next u →
      u.pc = s.pc + 2 ∧ u.p = s.p ∧ u.sp = s.sp ∧ u.a = s.a ∧ u.x = s.x ∧ u.y = s.y)

/-- A branch tests its one flag. Not taken it ends at PC + 2 in 2 cycles; taken it goes to PC + 2 plus
the signed offset, modulo 2^16, in 3 cycles, or 4 when the target lies on another page than PC +
2. No flag and nothing else changes. (R268, R269, R270, R271, R272, R273, R274, R275) -/
def Obligations.ConditionalBranches : Prop :=
  ∀ (s : State) (r : Byte),
    let next : Word := s.pc + 2
    let target : Word := BitVec.ofInt 16 (s.pc.toNat + 2 + r.toInt)
    let branch (i : Instr) (op : Byte) (c : Bool) : Prop :=
      encode i = [op, r] ∧
      (c = true → exec i s = .next { s with
        pc := target
        cyc := s.cyc + 3 + if target.toNat / 256 = next.toNat / 256 then 0 else 1 }) ∧
      (c = false → exec i s = .next { s with pc := next, cyc := s.cyc + 2 })
    branch (.bcc r) 0x90 (!getFlag .C s.p) ∧ branch (.bcs r) 0xB0 (getFlag .C s.p) ∧
    branch (.beq r) 0xF0 (getFlag .Z s.p) ∧ branch (.bne r) 0xD0 (!getFlag .Z s.p) ∧
    branch (.bmi r) 0x30 (getFlag .N s.p) ∧ branch (.bpl r) 0x10 (!getFlag .N s.p) ∧
    branch (.bvc r) 0x50 (!getFlag .V s.p) ∧ branch (.bvs r) 0x70 (getFlag .V s.p)

/-- For every instruction and state: A, X, Y or S differs after it only if the instruction is one that
the spec names as writing it; the shifts and rotates write A in the accumulator format only. (R21,
R22, R23, R24, R200, R220, R250, R285, R305) -/
def Obligations.OnlyTheNamedInstructionsWriteARegister : Prop :=
  ∀ (i : Instr) (s t : State), exec i s = .next t →
    (i.mnemonic ∉ writersOfA → t.a = s.a) ∧
    (i.mnemonic ∈ [.ASL, .LSR, .ROL, .ROR] → i.operand ≠ .acc → t.a = s.a) ∧
    (i.mnemonic ∉ writersOfX → t.x = s.x) ∧ (i.mnemonic ∉ writersOfY → t.y = s.y) ∧
    (i.mnemonic ∉ writersOfS → t.sp = s.sp)

/-- In a state whose P has U set and B clear, after any instruction a flag differs only if the
instruction is in the spec column of its writers; B and U never differ. (R27, R28) -/
def Obligations.OnlyTheNamedInstructionsWriteAFlag : Prop :=
  ∀ (i : Instr) (s t : State) (f : Flag), pOk s.p = true → exec i s = .next t →
    i.mnemonic ∉ writersOfFlag f → getFlag f t.p = getFlag f s.p

/-- For every instruction and state, every byte of work RAM, program RAM, program ROM, video RAM,
graphics memory, object memory and palette reads as before, except the byte the instruction stores
to: at its computed effective address, or at the stack. (R82, R92, R106, R112, R200, R220, R250,
R285, R305, R634, R637, R710) -/
def Obligations.StorageChangesOnlyWhereTheInstructionStores : Prop :=
  ∀ (i : Instr) (s t : State), exec i s = .next t →
    ∀ (sp : Space) (k : Nat), ¬ instrStoresTo i s sp k → storageByte sp k t = storageByte sp k s

/-- Video, audio, mapper and port registers, pending interrupts and owed stalls are as before after an
instruction that writes no memory, and after a store or read-modify-write to work RAM, but for
what its reads change (bus latch, the side effects of reading device registers). (R112, R113,
R200, R220, R250, R285, R305) -/
def Obligations.OnlyStoresReachDevices : Prop :=
  ∀ (i : Instr) (s t : State), exec i s = .next t →
    (i.mnemonic ∉ storers ∨ i.operand = .acc → devicesReadOnly s t) ∧
    (i.mnemonic ∈ storers → i.mnemonic ∈ pushers ∨ (resolve i.operand s).ea.toNat ≤ 0x1FFF →
      devicesReadOnly { s with ram := t.ram } t)

/-- In a state whose memories are canonical and in size: after Wr(a, v), the storage byte that a names
holds v (6 bits of it in the palette), and every other storage byte is as before; the copy at
0x4014 stores to object memory only. CPU registers never change. (R82, R85, R91, R106, R462, R467,
R634, R637, R710) -/
def Obligations.WritesStoreTheByte : Prop :=
  ∀ (a : Word) (v : Byte) (s : State), memoriesOk s = true →
    (∀ (sp : Space) (k : Nat), ¬ storesTo a s sp k → storageByte sp k (wr a v s) = storageByte sp k s) ∧
    (∀ (sp : Space) (k : Nat), storesTo a s sp k → a ≠ 0x4014 →
      (sp = .prgRam → s.cart.prgRam.isSome = true) →
      storageByte sp k (wr a v s) = if sp = .pal then v &&& 0x3F else v) ∧
    (let t := wr a v s
     t.a = s.a ∧ t.x = s.x ∧ t.y = s.y ∧ t.sp = s.sp ∧ t.pc = s.pc ∧ t.p = s.p ∧ t.cyc = s.cyc)

/-- For addresses below 0x2000: a read returns the byte of work RAM at a & 0x07FF and changes only the
bus latch; a write stores there and changes nothing else; so a byte written at any mirror is read
back at all four. (R82) -/
def Obligations.WorkRamMirrors : Prop :=
  ∀ (a b : Word) (v : Byte) (s : State), a.toNat ≤ 0x1FFF → b.toNat ≤ 0x1FFF →
    peek a s = s.ram.get (a.toNat % 2048) ∧ afterRd a s = { s with busLatch := peek a s } ∧
    wr a v s = { s with ram := s.ram.set (a.toNat % 2048) v } ∧
    (s.ram.wf = true →
      peek b (wr a v s) = if a.toNat % 2048 = b.toNat % 2048 then v else peek b s)

/-- A read of 0x4000..0x4014 or 0x4018..0x5FFF, and of 0x6000..0x7FFF when no program RAM answers,
returns the bus latch, that is the value of the read before it, and changes nothing; a write to
0x4018..0x5FFF, and to 0x6000..0x7FFF when no program RAM answers, changes nothing. Every read
leaves its value in the latch; no write but the object-memory copy changes the latch. (R84, R86,
R89, R90, R91, R94, R633, R634) -/
def Obligations.OpenBus : Prop :=
  ∀ (a b : Word) (v : Byte) (s : State),
    let unmapped := (0x4000 ≤ a.toNat ∧ a.toNat ≤ 0x4014) ∨ (0x4018 ≤ a.toNat ∧ a.toNat ≤ 0x5FFF) ∨
      (0x6000 ≤ a.toNat ∧ a.toNat ≤ 0x7FFF ∧
        (s.cart.prgRam = none ∨ s.mapper.prgRamEnabled = false))
    (unmapped → peek a s = s.busLatch ∧ afterRd a s = s ∧ peek a (afterRd b s) = peek b s) ∧
    (unmapped → 0x4018 ≤ a.toNat → wr a v s = s) ∧
    (afterRd b s).busLatch = peek b s ∧
    (a ≠ 0x4014 → (wr a v s).busLatch = s.busLatch)

/-- After any step from any state: program ROM, and graphics memory when it is ROM, the bank counts,
the header mirroring, the battery bit and the mapper variant are the same. (R60, R92, R631, R635,
R637) -/
def Obligations.RomNeverChanges : Prop :=
  ∀ s t : State, step s = .next t →
    t.cart.prgRom = s.cart.prgRom ∧ (s.cart.chrIsRam = false → t.cart.chr = s.cart.chr) ∧
    t.cart.prgBanks = s.cart.prgBanks ∧ t.cart.chrBanks = s.cart.chrBanks ∧
    t.cart.mirroring = s.cart.mirroring ∧ t.cart.battery = s.cart.battery ∧
    t.mapper.id = s.mapper.id

/-- At every mirror in 0x2000..0x3FFF. Status: the three flags and the low five latch bits, and it
clears vblank and the write toggle only (a pending NMI stays). OAM data: the addressed byte, bits
4:2 clear for attribute bytes, no increment. Data: below 0x3F00 the old buffer, which is refilled
from the address; in the palette the entry at once, the buffer refilled from 0x1000 below; the
address grows by 1 or 32. The write-only registers return the latch and change nothing but the bus
latch. (R455, R460, R468) -/
def Obligations.VideoRegisterReads : Prop :=
  ∀ (a : Word) (s : State), 0x2000 ≤ a.toNat → a.toNat ≤ 0x3FFF →
    let v := peek a s
    (a.toNat % 8 = 2 →
      v.getLsbD 7 = s.ppu.vblank ∧ v.getLsbD 6 = s.ppu.spr0Hit ∧ v.getLsbD 5 = s.ppu.sprOverflow ∧
      v.toNat % 32 = s.ppu.ioLatch.toNat % 32 ∧
      afterRd a s = { s with
        busLatch := v, ppu := { s.ppu with vblank := false, w := false, ioLatch := v } }) ∧
    (a.toNat % 8 = 4 →
      (∀ k < 8, v.getLsbD k =
        ((s.ppu.oam.get s.ppu.oamAddr.toNat).getLsbD k &&
          !(s.ppu.oamAddr.toNat % 4 = 2 ∧ 2 ≤ k ∧ k ≤ 4 : Bool))) ∧
      afterRd a s = { s with busLatch := v, ppu := { s.ppu with ioLatch := v } }) ∧
    (a.toNat % 8 = 7 →
      let va : VAddr := BitVec.ofNat 14 s.ppu.v.toNat
      v = (if va.toNat < 0x3F00 then s.ppu.readBuf else ppuRd va s) ∧
      ∃ v' : BitVec 15,
        v'.toNat = (s.ppu.v.toNat + if s.ppu.ctrl.getLsbD 2 then 32 else 1) % 32768 ∧
        afterRd a s = { s with
          busLatch := v
          ppu := { s.ppu with
            v := v', ioLatch := v
            readBuf :=
              if va.toNat < 0x3F00 then ppuRd va s else ppuRd (va - 0x1000) s } }) ∧
    (a.toNat % 8 ≠ 2 → a.toNat % 8 ≠ 4 → a.toNat % 8 ≠ 7 →
      v = s.ppu.ioLatch ∧ afterRd a s = { s with busLatch := v })

/-- At every mirror in 0x2000..0x3FFF, field by field: control (with the nametable bits of t, no
interrupt raised by it), mask, status (nothing), OAM address, OAM data (stored, address one on),
the two writes of scroll and of address that the toggle selects, and data (stored at the address,
which grows by 1 or 32). Every write also fills the latch; nothing else changes. That a control
write raises no interrupt is NMI_ON_ENABLE_DURING_VBLANK at its default, false (R8, R457, D32, log
entry 1). (R456, R457) -/
def Obligations.VideoRegisterWrites : Prop :=
  ∀ (a : Word) (d : Byte) (s : State), 0x2000 ≤ a.toNat → a.toNat ≤ 0x3FFF →
    let p := s.ppu
    let t := p.t
    (a.toNat % 8 = 0 → ∃ t' : BitVec 15,
      bits t' 0 10 = bits t 0 10 ∧ bits t' 10 2 = bits d 0 2 ∧ bits t' 12 3 = bits t 12 3 ∧
      wr a d s = { s with ppu := { p with ioLatch := d, ctrl := d, t := t' } }) ∧
    (a.toNat % 8 = 1 → wr a d s = { s with ppu := { p with ioLatch := d, mask := d } }) ∧
    (a.toNat % 8 = 2 → wr a d s = { s with ppu := { p with ioLatch := d } }) ∧
    (a.toNat % 8 = 3 → wr a d s = { s with ppu := { p with ioLatch := d, oamAddr := d } }) ∧
    (a.toNat % 8 = 4 → wr a d s = { s with
      ppu := { p with
        ioLatch := d, oam := p.oam.set p.oamAddr.toNat d, oamAddr := p.oamAddr + 1 } }) ∧
    (a.toNat % 8 = 5 → ∃ t' : BitVec 15,
      (p.w = false → bits t' 0 5 = bits d 3 5 ∧ bits t' 5 10 = bits t 5 10 ∧
        wr a d s = { s with
          ppu := { p with ioLatch := d, w := true, fineX := bits d 0 3, t := t' } }) ∧
      (p.w = true → bits t' 0 5 = bits t 0 5 ∧ bits t' 5 5 = bits d 3 5 ∧
        bits t' 10 2 = bits t 10 2 ∧ bits t' 12 3 = bits d 0 3 ∧
        wr a d s = { s with ppu := { p with ioLatch := d, w := false, t := t' } })) ∧
    (a.toNat % 8 = 6 → ∃ t' : BitVec 15,
      (p.w = false → bits t' 0 8 = bits t 0 8 ∧ bits t' 8 6 = bits d 0 6 ∧ bits t' 14 1 = 0 ∧
        wr a d s = { s with ppu := { p with ioLatch := d, w := true, t := t' } }) ∧
      (p.w = true → bits t' 0 8 = d ∧ bits t' 8 7 = bits t 8 7 ∧
        wr a d s = { s with ppu := { p with ioLatch := d, w := false, t := t', v := t' } })) ∧
    (a.toNat % 8 = 7 → ∃ v' : BitVec 15,
      v'.toNat = (p.v.toNat + if p.ctrl.getLsbD 2 then 32 else 1) % 32768 ∧
      (let u := ppuWr (BitVec.ofNat 14 p.v.toNat) d s
       wr a d s = { u with ppu := { u.ppu with ioLatch := d, v := v' } }))

/-- For video addresses 0x3F00..0x3FFF: a byte written at one address is read (its low 6 bits) at
every address with the same entry number, where 0x10, 0x14, 0x18, 0x1C stand for 0x00, 0x04, 0x08,
0x0C; every other entry is as before. (R105) -/
def Obligations.PaletteMirrors : Prop :=
  ∀ (s : State) (a b : VAddr) (v : Byte), 0x3F00 ≤ a.toNat → 0x3F00 ≤ b.toNat →
    let entry (x : VAddr) : Nat :=
      let i := x.toNat % 32
      if i = 0x10 ∨ i = 0x14 ∨ i = 0x18 ∨ i = 0x1C then i - 0x10 else i
    ppuRd b (ppuWr a v s) = if entry a = entry b then v &&& 0x3F else ppuRd b s

/-- For video addresses 0x2000..0x3EFF (0x3000 on being the mirror of 0x2000 on) and canonical video
RAM: a byte written at one address is read at another exactly when they have the same place in
their table and the mode maps their tables to one physical table. The mode is the cartridge's, but
in variants 1 and 7 the one the variant holds; a four-screen cartridge is four-screen in every
variant. (R61, R103, R104, R106, R638, R673) -/
def Obligations.NametableMirrors : Prop :=
  ∀ (s : State) (a b : VAddr) (v : Byte), s.vram.wf = true →
    0x2000 ≤ a.toNat → a.toNat ≤ 0x3EFF → 0x2000 ≤ b.toNat → b.toNat ≤ 0x3EFF →
    let table (x : VAddr) : Nat := x.toNat / 1024 % 4
    let mode : Mirroring :=
      if s.cart.mirroring = .F then .F
      else match s.mapper with
        | .shiftRegister r => r.mir
        | .swap32 _ _ mir => mir
        | .fixed | .swap16 _ | .chrSelect _ => s.cart.mirroring
    let same : Bool :=
      match mode with
      | .H => table a / 2 == table b / 2
      | .V => table a % 2 == table b % 2
      | .S0 | .S1 => true
      | .F => table a == table b
    ppuRd b (ppuWr a v s) =
      if a.toNat % 1024 = b.toNat % 1024 ∧ same = true then v else ppuRd b s

/-- A tick at (261, 339) on an odd frame while rendering goes to (0, 0) of an even frame; every other
tick goes to the next dot, after dot 340 to the next scanline, after scanline 261 to (0, 0) with
the other parity. That the skip asks for rendering is ODD_SKIP_REQUIRES_RENDERING at its default,
true (R8, D31, 90_conflicts.md C2, log entry 1). (R43, R482) -/
def Obligations.RasterAdvance : Prop :=
  ∀ s : State,
    let p := s.ppu
    let t := (tick s).ppu
    (skipsDot p → t.scanline = 0 ∧ t.dot = 0 ∧ t.odd = false) ∧
    (¬ skipsDot p → p.dot < 340 → t.scanline = p.scanline ∧ t.dot = p.dot + 1 ∧ t.odd = p.odd) ∧
    (340 ≤ p.dot → p.scanline < 261 → t.scanline = p.scanline + 1 ∧ t.dot = 0 ∧ t.odd = p.odd) ∧
    (340 ≤ p.dot → 261 ≤ p.scanline → t.scanline = 0 ∧ t.dot = 0 ∧ t.odd = !p.odd)

/-- From (0, 0), whatever the rest of the state: 89342 ticks (89341 on an odd frame with rendering on)
lead back to (0, 0) of a frame of the other parity, the frame counter grows by exactly one, and
exactly one frame buffer is handed to the frame sink. That 89341 asks for rendering is
ODD_SKIP_REQUIRES_RENDERING at its default, true (R8, D31, 90_conflicts.md C2, log entry 1).
(R480, R482, R492) -/
def Obligations.FrameLength : Prop :=
  ∀ s : State, s.ppu.scanline = 0 → s.ppu.dot = 0 →
    let n := if s.ppu.odd = true ∧ s.ppu.rendering = true then 89341 else 89342
    let t := ticks n s
    t.ppu.scanline = 0 ∧ t.ppu.dot = 0 ∧ t.ppu.odd = (!s.ppu.odd) ∧ t.ppu.frame = s.ppu.frame + 1 ∧
    t.host.frames.length = s.host.frames.length + 1

/-- About tick() alone, not the CPU or the audio unit: the tick at (241, 1) sets vblank, sets the
pending NMI if enabled, counts the frame, hands the buffer drawn to the frame sink and starts a
fresh one, and sets frame_ready; no other tick changes any of these, but that the one at (261, 1)
clears vblank and the two sprite flags. That the frame sink is a list, newest first, and that a
fresh buffer lists no pixel are the model's choices (log entries 5 and 2, DESIGN CHOICE). (R492,
R493, R721) -/
def Obligations.VerticalBlank : Prop :=
  ∀ s : State,
    let t := tick s
    (s.ppu.scanline = 241 → s.ppu.dot = 1 →
      t.ppu.vblank = true ∧ t.nmiPending = (s.nmiPending || s.ppu.ctrl.getLsbD 7) ∧
      t.ppu.frame = s.ppu.frame + 1 ∧ t.host.frames = s.ppu.fb :: s.host.frames ∧ t.ppu.fb = [] ∧
      t.ppu.frameReady = true) ∧
    (¬ (s.ppu.scanline = 241 ∧ s.ppu.dot = 1) →
      t.nmiPending = s.nmiPending ∧ t.ppu.frame = s.ppu.frame ∧ t.host = s.host ∧
      t.ppu.frameReady = s.ppu.frameReady ∧
      (¬ (s.ppu.scanline = 261 ∧ s.ppu.dot = 1) → t.ppu.vblank = s.ppu.vblank)) ∧
    (s.ppu.scanline = 261 → s.ppu.dot = 1 →
      t.ppu.vblank = false ∧ t.ppu.spr0Hit = false ∧ t.ppu.sprOverflow = false)

/-- While both layers are off: the raster never changes v, makes no fetch, evaluates no sprite and
sets neither sprite flag; each visible position gets the backdrop colour, palette entry 0 (and-ed
with 0x30 in grey). (R481, R490, R495) -/
def Obligations.RenderingDisabled : Prop :=
  ∀ s : State, s.ppu.rendering = false →
    let p := s.ppu
    let t := (tick s).ppu
    t = { p with
      scanline := t.scanline, dot := t.dot, odd := t.odd, frame := t.frame, fb := t.fb
      frameReady := t.frameReady, vblank := t.vblank, spr0Hit := t.spr0Hit
      sprOverflow := t.sprOverflow } ∧
    (t.spr0Hit = true → p.spr0Hit = true) ∧ (t.sprOverflow = true → p.sprOverflow = true) ∧
    (p.scanline ≤ 239 → 1 ≤ p.dot → p.dot ≤ 256 →
      t.fb.colour (p.scanline * 256 + (p.dot - 1)) =
        some (if p.mask.getLsbD 0 then p.pal.get 0 &&& 0x30 else p.pal.get 0))

/-- A read shows which length counters and whether the delta reader are non-zero, the frame and the
delta interrupt, bit 5 reading 0; it clears the frame interrupt only. A write enables or silences
each channel, starts or stops the delta channel (a running sample goes on), and clears the delta
interrupt. A write to 0x4000..0x400F takes effect at once on its one channel, field by field:
duty, envelope and volume, sweep, timer period, length (only while the channel is enabled), the
restarts of a write to a length register; 0x4009 and 0x400D have no register (R538). Nothing else
changes. (R533, R534, R535, R536, R537, R539, R540, R541, R542, R543, R548, R555) -/
def Obligations.AudioStatusAndEnable : Prop :=
  (∀ s : State,
    let u := s.apu
    let v := peek 0x4015 s
    v.getLsbD 0 = (u.pulse1.lc.len != 0) ∧ v.getLsbD 1 = (u.pulse2.lc.len != 0) ∧
    v.getLsbD 2 = (u.triangle.lc.len != 0) ∧ v.getLsbD 3 = (u.noise.lc.len != 0) ∧
    v.getLsbD 4 = (u.dmc.bytesLeft != 0) ∧ v.getLsbD 5 = false ∧ v.getLsbD 6 = u.frameIrq ∧
    v.getLsbD 7 = u.dmc.dmcIrq ∧
    afterRd 0x4015 s = { s with busLatch := v, apu := { u with frameIrq := false } }) ∧
  (∀ (s : State) (d : Byte),
    let u := s.apu
    let on (k : Nat) (lc : LengthCounter) : LengthCounter :=
      ⟨if d.getLsbD k then lc.len else 0, d.getLsbD k⟩
    wr 0x4015 d s = { s with apu := { u with
      pulse1 := { u.pulse1 with lc := on 0 u.pulse1.lc }
      pulse2 := { u.pulse2 with lc := on 1 u.pulse2.lc }
      triangle := { u.triangle with lc := on 2 u.triangle.lc }
      noise := { u.noise with lc := on 3 u.noise.lc }
      dmc := { u.dmc with
        dmcIrq := false
        curAddr :=
          if d.getLsbD 4 ∧ u.dmc.bytesLeft = 0 then u.dmc.sampleAddr else u.dmc.curAddr
        bytesLeft :=
          if d.getLsbD 4 then (if u.dmc.bytesLeft = 0 then u.dmc.sampleLen else u.dmc.bytesLeft)
          else 0 } } }) ∧
  (∀ (s : State) (d : Byte),
    let u := s.apu
    let tri := u.triangle
    let noise := u.noise
    (∀ k < 4,
      wr (BitVec.ofNat 16 (0x4000 + k)) d s =
        { s with apu := { u with pulse1 := pulseWritten k d u.pulse1 } } ∧
      wr (BitVec.ofNat 16 (0x4004 + k)) d s =
        { s with apu := { u with pulse2 := pulseWritten k d u.pulse2 } }) ∧
    wr 0x4008 d s = { s with apu := { u with
      triangle := { tri with linCtrl := d.getLsbD 7, linLoad := BitVec.ofNat 7 d.toNat } } } ∧
    wr 0x4009 d s = s ∧
    wr 0x400A d s = { s with apu := { u with
      triangle := { tri with
        timerPeriod := BitVec.ofNat 11 (tri.timerPeriod.toNat / 256 * 256 + d.toNat) } } } ∧
    wr 0x400B d s = { s with apu := { u with
      triangle := { tri with
        timerPeriod := BitVec.ofNat 11 (d.toNat % 8 * 256 + tri.timerPeriod.toNat % 256)
        lc := lengthLoaded d tri.lc, linReload := true } } } ∧
    wr 0x400C d s = { s with apu := { u with
      noise := { noise with env := { noise.env with
        loop := d.getLsbD 5, constVol := d.getLsbD 4, vol := BitVec.ofNat 4 d.toNat } } } } ∧
    wr 0x400D d s = s ∧
    wr 0x400E d s = { s with apu := { u with
      noise := { noise with mode := d.getLsbD 7, periodIdx := BitVec.ofNat 4 d.toNat } } } ∧
    wr 0x400F d s = { s with apu := { u with
      noise := { noise with
        lc := lengthLoaded d noise.lc, env := { noise.env with start := true } } } })

/-- It sets the mode and the inhibit bit, clears the count, clears the frame interrupt when bit 6 is
set, leaves the half-rate parity; with bit 7 set it fires one quarter and one half frame at once,
so every unhalted length counter above 0 falls by one, the three envelopes, the linear counter and
the two sweeps are clocked; with bit 7 clear no counter moves. (R556, R561, R562, R563, R568,
R582, R583) -/
def Obligations.FrameRegisterWrite : Prop :=
  ∀ (s : State) (d : Byte),
    let u := s.apu
    let t := (wr 0x4017 d s).apu
    let len (halt : Bool) (lc : LengthCounter) : Byte :=
      if d.getLsbD 7 = true ∧ halt = false ∧ lc.len ≠ 0 then lc.len - 1 else lc.len
    t.fcMode = d.getLsbD 7 ∧ t.irqInhibit = d.getLsbD 6 ∧ t.fc = 0 ∧ t.parity = u.parity ∧
    t.frameIrq = (u.frameIrq && !d.getLsbD 6) ∧ t.dmc = u.dmc ∧
    t.pulse1.lc.len = len u.pulse1.env.loop u.pulse1.lc ∧
    t.pulse2.lc.len = len u.pulse2.env.loop u.pulse2.lc ∧
    t.triangle.lc.len = len u.triangle.linCtrl u.triangle.lc ∧
    t.noise.lc.len = len u.noise.env.loop u.noise.lc ∧
    (d.getLsbD 7 = true →
      envelopeClocked u.pulse1.env t.pulse1.env ∧ envelopeClocked u.pulse2.env t.pulse2.env ∧
      envelopeClocked u.noise.env t.noise.env ∧ linearClocked u.triangle t.triangle ∧
      sweepClocked true u.pulse1 t.pulse1 ∧ sweepClocked false u.pulse2 t.pulse2 ∧
      pulseKeeps u.pulse1 t.pulse1 ∧ pulseKeeps u.pulse2 t.pulse2 ∧
      t.pulse1.timer = u.pulse1.timer ∧ t.pulse1.seqPos = u.pulse1.seqPos ∧
      t.pulse2.timer = u.pulse2.timer ∧ t.pulse2.seqPos = u.pulse2.seqPos ∧
      t.triangle = { u.triangle with
        lc := t.triangle.lc, lin := t.triangle.lin, linReload := t.triangle.linReload } ∧
      t.noise = { u.noise with env := t.noise.env, lc := t.noise.lc }) ∧
    (d.getLsbD 7 = false → t = { u with
      fcMode := false, irqInhibit := d.getLsbD 6, fc := 0, frameIrq := t.frameIrq }) ∧
    wr 0x4017 d s = { s with apu := t }

/-- The half-rate parity flips, and the sequencer counts when it was 1; the count wraps at 14915 or
18641. Quarter frames (3728, 7456, 11185, the final step 14914 or 18640) clock the three envelopes
and the linear counter, half frames (7456, the final step) all four length counters and the two
sweeps, no other clock does; the frame interrupt is set only at count 14914 in 4-step mode with
the inhibit bit clear, and never cleared. Then the timers: of the pulse channels on the half-rate
tick, of triangle and noise on every clock; a timer at 0 reloads and steps its sequence (the
triangle only with both counters above 0), the noise register shifting in its feedback bit. The
delta channel and all else stay. The half rate and the final step at period - 1 are
APU_FRAME_COUNTS_HALF_RATE and APU_FINAL_STEP_AT at their defaults (R8, R581, D37, D38, log entry
1). (R560, R561, R562, R563, R565, R568, R570, R580, R581, R582, R583, R600) -/
def Obligations.FrameSequencer : Prop :=
  ∀ u : Apu,
    let t := u.clockFront
    let period := if u.fcMode then 18641 else 14915
    let count := u.fc + 1
    let half : Bool := u.parity && (count == 7456 || count == period - 1)
    let quarter : Bool := half || (u.parity && (count == 3728 || count == 11185))
    let envelope (e e' : Envelope) : Prop := if quarter then envelopeClocked e e' else e' = e
    let length (halt : Bool) (lc lc' : LengthCounter) : Prop :=
      lc' = if half then lengthClocked halt lc else lc
    let pulse (isPulse1 : Bool) (p p' : Pulse) : Prop :=
      envelope p.env p'.env ∧ length p.env.loop p.lc p'.lc ∧ pulseKeeps p p' ∧
      (half = true → sweepClocked isPulse1 p p') ∧
      (half = false →
        p'.timerPeriod = p.timerPeriod ∧ p'.swDiv = p.swDiv ∧ p'.swReload = p.swReload) ∧
      (if u.parity = false then p'.timer = p.timer ∧ p'.seqPos = p.seqPos
        else if p.timer.toNat = 0 then
          p'.timer = p'.timerPeriod ∧ p'.seqPos.toNat = (p.seqPos.toNat + 1) % 8
        else p'.timer.toNat = p.timer.toNat - 1 ∧ p'.seqPos = p.seqPos)
    t.parity = (!u.parity) ∧
    t.fc = (if u.parity = false then u.fc else if count = period then 0 else count) ∧
    t.frameIrq = (u.frameIrq || (u.parity && !u.fcMode && !u.irqInhibit && count == 14914)) ∧
    t.dmc = u.dmc ∧ t.fcMode = u.fcMode ∧ t.irqInhibit = u.irqInhibit ∧
    t.sampleAcc = u.sampleAcc ∧
    pulse true u.pulse1 t.pulse1 ∧ pulse false u.pulse2 t.pulse2 ∧
    (let a := u.triangle
     let b := t.triangle
     length a.linCtrl a.lc b.lc ∧
     (if quarter then linearClocked a b else b.lin = a.lin ∧ b.linReload = a.linReload) ∧
     b.timerPeriod = a.timerPeriod ∧ b.linCtrl = a.linCtrl ∧ b.linLoad = a.linLoad ∧
     (if a.timer.toNat = 0 then
        b.timer = a.timerPeriod ∧
        b.seqPos.toNat =
          if 0 < b.lc.len.toNat ∧ 0 < b.lin.toNat then (a.seqPos.toNat + 1) % 32 else a.seqPos.toNat
      else b.timer.toNat = a.timer.toNat - 1 ∧ b.seqPos = a.seqPos)) ∧
    (let a := u.noise
     let b := t.noise
     envelope a.env b.env ∧ length a.env.loop a.lc b.lc ∧ b.mode = a.mode ∧
     b.periodIdx = a.periodIdx ∧
     (if a.timer.toNat = 0 then
        b.timer.toNat = noisePeriods.getD a.periodIdx.toNat 0 - 1 ∧
        (∀ k < 14, b.lfsr.getLsbD k = a.lfsr.getLsbD (k + 1)) ∧
        b.lfsr.getLsbD 14 = (a.lfsr.getLsbD 0 != a.lfsr.getLsbD (if a.mode then 6 else 1))
      else b.timer.toNat = a.timer.toNat - 1 ∧ b.lfsr = a.lfsr))

/-- A write to 0x4010 sets interrupt enable, loop and rate, and clears the interrupt when bit 7 is 0;
0x4011 loads the level, 0x4012 the address 0xC000 + 64 d, 0x4013 the length 16 d + 1. When its
buffer is empty and bytes are left, the reader reads the byte at its address with Rd, owes four
stall cycles, steps the address (0xFFFF is followed by 0x8000) and the count; the last byte
restarts a looping sample, else raises the interrupt if enabled; otherwise it does nothing. In a
clock() the output unit goes after the reader: its divider counts down; at 0 it reloads the rate,
moves the level by 2 by the low bit shifted out (a step that would leave 0..127 is skipped, and so
is every step while silent), and at the last bit takes the buffered byte or falls silent. Nothing
else changes in a clock() after the reader but what the sample step does: the accumulator grows by
one; when it has reached CPU_FREQ_HZ / SAMPLE_RATE_HZ that quotient is taken off it and the sample
of the channels goes to the audio sink, newest first (log entry 5). The stored accumulator is the
spec's times the numerator of the rate (log entry 4); what a sample is, MixerRange says.
CPU_FREQ_HZ and the four stall cycles (DMC_STALL_CYCLES) are at their defaults (R8, D23, D42, log
entry 1). (R544, R545, R546, R547, R560, R572, R573, R600, R609) -/
def Obligations.DeltaReader : Prop :=
  (∀ (s : State) (d : Byte),
    let m := s.apu.dmc
    let set (m' : Dmc) : State := { s with apu := { s.apu with dmc := m' } }
    wr 0x4010 d s = set { m with
      irqEn := d.getLsbD 7, loop := d.getLsbD 6, rateIdx := BitVec.ofNat 4 d.toNat
      dmcIrq := m.dmcIrq && d.getLsbD 7 } ∧
    wr 0x4011 d s = set { m with level := BitVec.ofNat 7 d.toNat } ∧
    wr 0x4012 d s = set { m with sampleAddr := BitVec.ofNat 16 (0xC000 + 64 * d.toNat) } ∧
    wr 0x4013 d s = set { m with sampleLen := BitVec.ofNat 12 (16 * d.toNat + 1) }) ∧
  (∀ s : State,
    let d := s.apu.dmc
    let b := peek d.curAddr s
    let cur : Word := if d.curAddr = 0xFFFF then 0x8000 else d.curAddr + 1
    let last : Bool := d.bytesLeft == 1
    let t := afterRd d.curAddr s
    (d.bufFull = true ∨ d.bytesLeft = 0 → dmcReader s = s) ∧
    (d.bufFull = false → d.bytesLeft ≠ 0 → dmcReader s = { t with
      stall := s.stall + 4
      apu := { t.apu with dmc := { d with
        buf := b, bufFull := true
        curAddr := if last && d.loop then d.sampleAddr else cur
        bytesLeft := if last && d.loop then d.sampleLen else d.bytesLeft - 1
        dmcIrq := d.dmcIrq || (last && !d.loop && d.irqEn) } } })) ∧
  (∀ s : State,
    let d := (dmcReader { s with apu := s.apu.clockFront }).apu.dmc
    let t := (clock s).apu.dmc
    (0 < d.timer.toNat → t = { d with timer := d.timer - 1 }) ∧
    (d.timer.toNat = 0 →
      t.timer.toNat = deltaRates.getD d.rateIdx.toNat 0 - 1 ∧
      t.level.toNat =
        (if d.silence then d.level.toNat
         else if d.shift.getLsbD 0 then
           (if d.level.toNat + 2 ≤ 127 then d.level.toNat + 2 else d.level.toNat)
         else if 2 ≤ d.level.toNat then d.level.toNat - 2 else d.level.toNat) ∧
      (1 < d.bitsLeft → t = { d with
        timer := t.timer, level := t.level, bitsLeft := d.bitsLeft - 1
        shift := BitVec.ofNat 8 (d.shift.toNat / 2) }) ∧
      (d.bitsLeft = 1 → d.bufFull = true → t = { d with
        timer := t.timer, level := t.level, bitsLeft := 8, silence := false, shift := d.buf
        bufFull := false }) ∧
      (d.bitsLeft = 1 → d.bufFull = false → t = { d with
        timer := t.timer, level := t.level, bitsLeft := 8, silence := true
        shift := BitVec.ofNat 8 (d.shift.toNat / 2) }))) ∧
  (∀ s : State,
    let r := dmcReader { s with apu := s.apu.clockFront }
    let t := clock s
    let acc (s : State) : Rat := (s.apu.sampleAcc : Rat) / config.sampleRateNum
    let period : Rat := 1789773 / ((config.sampleRateNum : Rat) / config.sampleRateDen)
    let due : Prop := period ≤ acc s + 1
    t = { r with
      apu := { r.apu with dmc := t.apu.dmc, sampleAcc := t.apu.sampleAcc }
      host := { r.host with samples := t.host.samples } } ∧
    acc t = (if due then acc s + 1 - period else acc s + 1) ∧
    t.host.samples = (if due then t.apu.levels :: s.host.samples else s.host.samples))

/-- A pulse channel is 0 while its length counter is 0, its waveform step is 0 or its sweep mutes it,
else its envelope; the triangle is the step of its 32-step sequence, 15 down to 0 and up again;
the noise is 0 while bit 0 of its register is 1 or its length counter is 0, else its envelope; the
delta channel is its level. Whatever the five outputs are, the mixed sample is at least 0 and at
most 1, and it is 0 when all outputs are 0: MIX is taken at its default (R8, R608, D41, log
entries 1 and 4). (R561, R563, R565, R566, R568, R570, R573, R608, R722) -/
def Obligations.MixerRange : Prop :=
  (∀ u : Apu,
    let l := u.levels
    pulseLevel true u.pulse1 l.pulse1.toNat ∧ pulseLevel false u.pulse2 l.pulse2.toNat ∧
    (let k := u.triangle.seqPos.toNat
     l.triangle.toNat = if k < 16 then 15 - k else k - 16) ∧
    l.noise.toNat =
      (if u.noise.lfsr.getLsbD 0 = true ∨ u.noise.lc.len.toNat = 0 then 0
       else envelopeOut u.noise.env) ∧
    l.dmc = u.dmc.level) ∧
  (∀ l : ChannelLevels, 0 ≤ l.sample ∧ l.sample ≤ 1) ∧
  (∀ l : ChannelLevels, l = ⟨0, 0, 0, 0, 0⟩ → l.sample = 0)

/-- A write with bit 7 set clears the shift register and changes no bank register. After it, five
writes with bit 7 clear put their bits 0, the first in bit 0, in the register that bits 14:13 of
the fifth address name (control also setting the mirroring), change no other register, and leave
the shift register clear. That the bit-7 write changes no bank register is
MMC1_RESET_SETS_PRG_MODE at its default, false (R8, R653, D47, 90_conflicts.md C3, log entry 1).
(R651, R653, R654) -/
def Obligations.SerialRegisterWrites : Prop :=
  ∀ (r : Mmc1) (a0 a1 a2 a3 a4 a5 : Word) (v0 v1 v2 v3 v4 v5 : Byte),
    v0.getLsbD 7 = true → v1.getLsbD 7 = false → v2.getLsbD 7 = false → v3.getLsbD 7 = false →
    v4.getLsbD 7 = false → v5.getLsbD 7 = false →
    let clear : Mmc1 := { r with sr := 0, srCount := 0 }
    let value := serialValue v1 v2 v3 v4 v5
    (Mapper.shiftRegister r).writePrgRom a0 v0 = .shiftRegister clear ∧
    (∃ sr c, serialWrites [(a0, v0), (a1, v1), (a2, v2), (a3, v3), (a4, v4)] (.shiftRegister r) =
      .shiftRegister { r with sr := sr, srCount := c }) ∧
    serialWrites [(a0, v0), (a1, v1), (a2, v2), (a3, v3), (a4, v4), (a5, v5)] (.shiftRegister r) =
      .shiftRegister (match a5.toNat / 8192 % 4 with
        | 0 => { clear with
            control := value
            mir := match value.toNat % 4 with
              | 0 => .S0
              | 1 => .S1
              | 2 => .V
              | _ => .H }
        | 1 => { clear with chr0 := value }
        | 2 => { clear with chr1 := value }
        | _ => { clear with prg := value })

/-- For a CPU address from 0x8000: variants 0 and 3 show ROM modulo its size; variant 2 the selected
16K bank and the last one; variant 7 the selected 32K bank; variant 1 by its PRG mode. A write
there changes only the registers of the variant (nothing in variant 0, R642; the serial write of
variant 1; R661, R666; in variant 7 the bank, one_screen and with it the mirroring mode, R671,
R673). For a video address below 0x2000 variants 0, 2 and 7 show graphics memory modulo its size,
variant 3 the selected 8K bank, variant 1 one 8K bank or two 4K banks; a video write stores there
in graphics RAM and does nothing in ROM (R637). (R641, R643, R651, R652, R656, R662, R663, R666,
R667, R668, R672, R674) -/
def Obligations.MapperWindows : Prop :=
  (∀ (s : State) (a : Word) (v : Byte), 0x8000 ≤ a.toNat →
    let size := s.cart.prgBanks * 16384
    let rom (k : Nat) : Byte := s.cart.prgRom.get k
    let o := a.toNat % 0x4000
    (s.mapper = .fixed → peek a s = rom ((a.toNat - 0x8000) % size) ∧ wr a v s = s) ∧
    (∀ b, s.mapper = .chrSelect b →
      peek a s = rom ((a.toNat - 0x8000) % size) ∧
      wr a v s = { s with mapper := .chrSelect v }) ∧
    (∀ b, s.mapper = .swap16 b →
      peek a s = (if a.toNat ≤ 0xBFFF then rom ((b.toNat * 0x4000 + o) % size)
        else rom ((s.cart.prgBanks - 1) * 0x4000 + o)) ∧
      wr a v s = { s with mapper := .swap16 v }) ∧
    (∀ b one mir, s.mapper = .swap32 b one mir →
      peek a s = rom ((b.toNat * 0x8000 + a.toNat % 0x8000) % size) ∧
      let bit := v.getLsbD 4
      wr a v s = { s with
        mapper := .swap32 (BitVec.ofNat 8 (v.toNat % 8)) bit (if bit then .S1 else .S0) }) ∧
    (∀ r, s.mapper = .shiftRegister r →
      let b := r.prg.toNat % 16
      let low : Bool := a.toNat ≤ 0xBFFF
      let bank := match r.control.toNat / 4 % 4 with
        | 2 => if low then 0 else b
        | 3 => if low then b else s.cart.prgBanks - 1
        | _ => if low then b / 2 * 2 else b / 2 * 2 + 1
      peek a s = rom ((bank * 0x4000 + o) % size) ∧
      wr a v s = { s with mapper := .shiftRegister (r.write a v) })) ∧
  (∀ (s : State) (a : VAddr) (v : Byte), a.toNat ≤ 0x1FFF →
    let size := 8192 * max s.cart.chrBanks 1
    let offset := (match s.mapper with
      | .fixed | .swap16 _ | .swap32 .. => a.toNat
      | .chrSelect b => b.toNat * 0x2000 + a.toNat
      | .shiftRegister r =>
        if r.control.toNat < 16 then r.chr0.toNat / 2 * 0x2000 + a.toNat
        else if a.toNat < 0x1000 then r.chr0.toNat * 0x1000 + a.toNat
        else r.chr1.toNat * 0x1000 + (a.toNat - 0x1000)) % size
    ppuRd a s = s.cart.chr.get offset ∧
    ppuWr a v s =
      if s.cart.chrBanks = 0 then
        { s with cart := { s.cart with chr := s.cart.chr.set offset v } }
      else s)

/-- A write to 0x4016 latches both players' masks. With bit 0 of it 0, eight reads of 0x4016 return
bits 0 to 7 of player 1's mask and a ninth returns 1, and likewise 0x4017 for player 2; with bit 0
of it 1 every read returns bit 0 of the mask and shifts nothing. The masks are whatever the input
callbacks answered (free inputs of the environment); CTRL_BIT_OF_A and CTRL_AFTER_8 are taken at
their defaults (R8, D21, log entry 1). (R88, R714, R715, R723) -/
def Obligations.ControllerReads : Prop :=
  ∀ (s : State) (v : Byte),
    let t := wr 0x4016 v s
    let m0 := s.host.masks.1
    let m1 := s.host.masks.2
    let button (m : Byte) (k : Nat) : Byte := if m.getLsbD k then 1 else 0
    let all (m : Byte) : List Byte := (List.range 8).map (button m)
    t.ctlStrobe = v.getLsbD 0 ∧ t.host.strobes = s.host.strobes + 1 ∧
    (v.getLsbD 0 = false →
      (readsOf 0x4016 9 t).1 = all m0 ++ [1] ∧ (readsOf 0x4017 9 t).1 = all m1 ++ [1]) ∧
    (v.getLsbD 0 = true → ∀ n,
      (readsOf 0x4016 n t).1 = List.replicate n (button m0 0) ∧
      (readsOf 0x4017 n t).1 = List.replicate n (button m1 0))

/-- For every page the copy leaves the OAM address where it was and owes 513 stall cycles, one more
when the cycle counter is odd. For every page outside the video registers, with canonical object
memory, byte i of it (as Rd returns it, in order) lies in object memory at OAM address + i modulo
256, and the rest of the machine is as the 256 reads leave it. The cost is OAM_DMA_CYCLES at its
default (R8, D22, log entry 1). (R710, R711, R712) -/
def Obligations.ObjectMemoryCopy : Prop :=
  ∀ (s : State) (d : Byte),
    let t := wr 0x4014 d s
    t.ppu.oamAddr = s.ppu.oamAddr ∧ t.stall = s.stall + 513 + s.cyc % 2 ∧
    (d.toNat < 0x20 ∨ 0x40 ≤ d.toNat → s.ppu.oam.wf = true →
      let r := readBytes 256 (BitVec.ofNat 16 (d.toNat * 256)) s
      (∀ i < 256, t.ppu.oam.get ((s.ppu.oamAddr.toNat + i) % 256) = r.1.getD i 0) ∧
      t = { r.2 with ppu := { r.2.ppu with oam := t.ppu.oam }, stall := t.stall })

/-- After reset() every register, device field and RAM byte has the value of the spec's table; PC is
the word at 0xFFFC read through the mapper in its reset state, and the bus latch its high byte;
only ROM and battery-backed program RAM survive. The host's side of the callbacks is not the
core's. The values of the registers and of RAM are decisions of this spec (D15, D16; log entries 8
and 9: no source gives them), that the host's side stays is the model's choice (log entry 14), and
the S0 of variant 7 is R673 with one_screen = 0 (log entry 19). (R75, R740, R741) -/
def Obligations.ResetValues : Prop :=
  ∀ s : State,
    let t := hostReset s
    let l := readPrgRom s.cart t.mapper 0xFFFC
    let h := readPrgRom s.cart t.mapper 0xFFFD
    (t.a = 0x00 ∧ t.x = 0x00 ∧ t.y = 0x00 ∧ t.sp = 0xFD ∧ t.p = 0x24 ∧ t.cyc = 7 ∧
      t.nmiPending = false ∧ t.stall = 0) ∧
    (t.pc = BitVec.ofNat 16 (l.toNat + 256 * h.toNat) ∧ t.busLatch = h) ∧
    t.ppu = {
      ctrl := 0, mask := 0, vblank := false, spr0Hit := false, sprOverflow := false, oamAddr := 0
      oam := [], v := 0, t := 0, fineX := 0, w := false, readBuf := 0, ioLatch := 0
      pal := Vector.replicate 32 0, scanline := 0, dot := 0, odd := false, frame := 0, ntByte := 0
      atBits := 0, ptLo := 0, ptHi := 0, bgLo := 0, bgHi := 0, atLo := 0, atHi := 0
      slots := Vector.replicate 8 ⟨0, 0, 0, 0, 0, 0⟩, slotCount := 0, slot0IsSpr0 := false
      fb := [], frameReady := false } ∧
    (∃ env : Envelope, env = ⟨false, false, false, 0, 0, 0⟩ ∧ ∃ lc : LengthCounter, lc = ⟨0, false⟩ ∧
      ∃ pulse : Pulse, pulse = ⟨env, lc, 0, 0, 0, 0, false, 0, false, 0, false, 0⟩ ∧
      t.apu.pulse1 = pulse ∧ t.apu.pulse2 = pulse ∧
      t.apu.triangle = ⟨lc, false, 0, 0, false, 0, 0, 0⟩ ∧ t.apu.noise = ⟨env, lc, false, 0, 0, 1⟩) ∧
    t.apu.dmc = {
      irqEn := false, loop := false, rateIdx := 0, timer := 0, level := 0, sampleAddr := 0xC000
      sampleLen := 1, curAddr := 0, bytesLeft := 0, buf := 0, bufFull := false, shift := 0
      bitsLeft := 8, silence := true, dmcIrq := false } ∧
    (t.apu.fc = 0 ∧ t.apu.fcMode = false ∧ t.apu.irqInhibit = false ∧ t.apu.frameIrq = false ∧
      t.apu.parity = false ∧ t.apu.sampleAcc = 0) ∧
    t.mapper = (match s.mapper with
      | .fixed => .fixed
      | .shiftRegister _ => .shiftRegister ⟨0, 0, 0x0C, 0, 0, 0, s.cart.mirroring⟩
      | .swap16 _ => .swap16 0
      | .chrSelect _ => .chrSelect 0
      | .swap32 .. => .swap32 0 false
          .S0) ∧
    (t.cart.prgRom = s.cart.prgRom ∧ t.cart.chr = (if s.cart.chrBanks = 0 then [] else s.cart.chr) ∧
      t.cart.prgRam =
        (if s.cart.battery then s.cart.prgRam else s.cart.prgRam.map fun _ => []) ∧
      t.cart.prgBanks = s.cart.prgBanks ∧ t.cart.chrBanks = s.cart.chrBanks ∧
      t.cart.mirroring = s.cart.mirroring ∧ t.cart.battery = s.cart.battery) ∧
    (t.ram = [] ∧ t.vram = [] ∧ ∀ k, Memory.get [] k = 0x00) ∧
    (t.ctlStrobe = false ∧ t.ctl0 = ⟨0, 0⟩ ∧ t.ctl1 = ⟨0, 0⟩ ∧ t.host = s.host)

/-- For every image: too short or wrong magic gives BadMagic; then version 2 gives UnsupportedVersion;
then a body shorter than the header promises, or no PRG bank, gives BadMagic; then a mapper number
outside 0, 1, 2, 3, 7 gives UnsupportedMapper with that number; else the load succeeds. A failed
load leaves the machine as it was. After a successful one, with t = 512 if the trainer bit is set,
else 0: prg_rom[i] is byte 16 + t + i of the image and chr[i] byte 16 + t + prg_size + i, graphics
RAM (no CHR bank) and program RAM are zero; the mirroring and the battery bit are the header's
(R623), the variant is the one of the mapper number (R640), and the machine is that of reset()
with this cartridge. A mapper is constructed with the cartridge's mirroring as its current mode
(R61), and the reset() of variant 7 selects S0 (R673): that order is the model's inference (log
entry 19, DEDUCED). RAM_INIT and PRG_RAM_PRESENT are taken at their defaults (R8, D16, D49, log
entry 1). (R61, R623, R624, R627, R628, R629, R640, R673) -/
def Obligations.LoadFailures : Prop :=
  ∀ (bytes : List Byte) (s : State),
    let b (k : Nat) : Nat := (bytes.getD k 0).toNat
    let magic := 16 ≤ bytes.length ∧ b 0 = 0x4E ∧ b 1 = 0x45 ∧ b 2 = 0x53 ∧ b 3 = 0x1A
    let version := b 7 / 4 % 4
    let need := 16 + (if b 6 / 4 % 2 = 1 then 512 else 0) + b 4 * 16384 + b 5 * 8192
    let body := 0 < b 4 ∧ need ≤ bytes.length
    let id := b 7 / 16 * 16 + b 6 / 16
    let e := (hostLoad bytes s).error
    (e ≠ none → (hostLoad bytes s).st = s) ∧
    (¬ magic → e = some .badMagic) ∧
    (magic → version = 2 → e = some .unsupportedVersion) ∧
    (magic → version ≠ 2 → ¬ body → e = some .badMagic) ∧
    (magic → version ≠ 2 → body → id ∉ [0, 1, 2, 3, 7] → e = some (.unsupportedMapper id)) ∧
    (magic → version ≠ 2 → body → id ∈ [0, 1, 2, 3, 7] → e = none ∧
      let t := (hostLoad bytes s).st
      let c := t.cart
      let start := 16 + (if b 6 / 4 % 2 = 1 then 512 else 0)
      (c.prgBanks = b 4 ∧ ∀ k < b 4 * 16384, c.prgRom.get k = bytes.getD (start + k) 0) ∧
      (c.chrBanks = b 5 ∧
        ∀ k < b 5 * 8192, c.chr.get k = bytes.getD (start + b 4 * 16384 + k) 0) ∧
      (b 5 = 0 → ∀ k, c.chr.get k = 0x00) ∧ c.chrIsRam = (b 5 == 0) ∧
      (∃ ram, c.prgRam = some ram ∧ ∀ k, ram.get k = 0x00) ∧
      c.mirroring = (if b 6 / 8 % 2 = 1 then .F else if b 6 % 2 = 1 then .V else .H) ∧
      c.battery = (b 6 / 2 % 2 == 1) ∧
      t.mapper = (match id with
        | 0 => .fixed
        | 1 => .shiftRegister ⟨0, 0, 0x0C, 0, 0, 0, c.mirroring⟩
        | 2 => .swap16 0
        | 3 => .chrSelect 0
        | _ => .swap32 0 false .S0) ∧
      t = hostReset { s with cart := c, mapper := t.mapper } ∧
      ∃ m, Mapper.construct c id = some m ∧ m.reset c = t.mapper ∧
        currentMirroring c m = c.mirroring)

/-- For every state, after any number of steps from it, restoring the snapshot of it gives it back
whole, but for the host's side of the callbacks, which is not part of the core; a snapshot with
another version tag or of another cartridge is refused and changes nothing. That the host's side
is not restored, and what makes two cartridges the same (cartridgeIdentity), are the model's
choices of log entry 14 (DESIGN CHOICE), which R727 does not fix. (R727, R728) -/
def Obligations.SnapshotRestores : Prop :=
  (∀ (s t : State) (n : Nat), reaches n s t →
    restore (capture s) t = .ok { s with host := t.host }) ∧
  (∀ (r : Snapshot) (s : State), r.version ≠ snapshotVersion ∨
      cartridgeIdentity r.state ≠ cartridgeIdentity s →
    ∃ e, restore r s = .error e)

/-- From every state that meets it (not only those reached from reset), a step leads to a state that
meets it: P has U set and B clear; every memory is in canonical form and within its size; the
cartridge is one a load can make; the raster position, the sprite count, the port counts, the
serial count, the frame count and the delta bit count are in range; the noise register is not 0;
the bank of variant 7 has only bits 2:0, and its mirroring mode is that of one_screen (R673).
(R28, R43, R45, R57, R61, R65, R66, R475, R570, R580, R638, R670) -/
def Obligations.StepKeepsTheInvariant : Prop :=
  ∀ s t : State, stateOk s = true → step s = .next t → stateOk t = true

/-- State.reset meets the invariant, and so does the state after reset() of any machine that meets it.
The clause on State.reset rests on the model's choice of its blank cartridge (log entry 6, DESIGN
CHOICE), and both clauses on what RAM and the registers hold at reset, decisions of this spec that
no source gives (D15, D16; log entries 8 and 9). (R28, R43, R61, R65, R75, R740) -/
def Obligations.ResetHasTheInvariant : Prop :=
  stateOk State.reset = true ∧ ∀ s : State, stateOk s = true → stateOk (hostReset s) = true

/-- With a layer on, on a render line (0 to 239 and 261): at dots 1..256 and 321..336 the four shift
registers move by one bit and the phase of the dot fetches the name, attribute or pattern byte of
the tile at v, or loads the registers; v moves right at each eighth such dot, down at dot 256,
takes its horizontal part from t at dot 257 and its vertical part at dots 280..304 of line 261; at
dot 257 the first eight sprites of object memory that cover the next line fill the slots with
their (flipped) pattern row, a ninth sets the overflow flag, and line 261 empties the slots. On a
visible position the pixel drawn is the backdrop, the background or the first non-transparent
sprite by its priority bit, in grey and-ed with 0x30; the sprite-zero hit is set where sprite 0
and background coincide, but at column 255. Nothing else of the video unit changes, and on the
other lines only the raster position and what vertical blank does. The dots and the order of the
phases are the spec's decisions (D30, D35, D36, log entry 13). (R481, R483, R484, R485, R486,
R487, R488, R489, R490, R491, R500, R501) -/
def Obligations.RenderingPipeline : Prop :=
  ∀ s : State, s.ppu.rendering = true →
    let p := s.ppu
    let t := (tick s).ppu
    let renderLine : Prop := p.scanline ≤ 239 ∨ p.scanline = 261
    let visible : Prop := p.scanline ≤ 239 ∧ 1 ≤ p.dot ∧ p.dot ≤ 256
    (renderLine →
      backgroundFetched s t ∧ scrollMoved p t.v ∧ spritesEvaluated s t ∧
      t = { p with
        scanline := t.scanline, dot := t.dot, odd := t.odd, vblank := t.vblank, fb := t.fb
        spr0Hit := t.spr0Hit, sprOverflow := t.sprOverflow, v := t.v, ntByte := t.ntByte
        atBits := t.atBits, ptLo := t.ptLo, ptHi := t.ptHi, bgLo := t.bgLo, bgHi := t.bgHi
        atLo := t.atLo, atHi := t.atHi, slots := t.slots, slotCount := t.slotCount
        slot0IsSpr0 := t.slot0IsSpr0 }) ∧
    (¬ renderLine → t = { p with
      scanline := t.scanline, dot := t.dot, odd := t.odd, vblank := t.vblank, fb := t.fb
      frame := t.frame, frameReady := t.frameReady }) ∧
    (visible →
      let x := p.dot - 1
      let here := p.scanline * 256 + x
      let c := palGet p.pal (BitVec.ofNat 5 (entryDrawn p x))
      t.fb.colour here = some (if p.mask.getLsbD 0 then c &&& 0x30 else c) ∧
      (∀ k, k ≠ here → t.fb.colour k = p.fb.colour k) ∧
      t.spr0Hit = (p.spr0Hit || hitsSpriteZero p x)) ∧
    (renderLine → ¬ visible →
      t.fb = p.fb ∧ t.spr0Hit = (p.spr0Hit && !(p.scanline == 261 && p.dot == 1)))

end Statements
end

