-- ==== Sys2Proof/Laws/Memory.lean ====
section
/-! SUPPORT. Laws of byte storage: a read after a write, every other byte unchanged, and the canonical
form that every operation keeps. -/

namespace Sys2Proof.Machine

@[simp] theorem Memory.get_nil (a : Nat) : Memory.get [] a = Memory.blank := rfl

theorem Memory.get_pair (k : Nat) (v : Byte) (m : Memory) (a : Nat) :
    Memory.get ((k, v) :: m) a = if k = a then v else Memory.get m a := rfl

theorem Memory.get_cons_other {a b : Nat} (h : b ≠ a) (v : Byte) (m : Memory) :
    Memory.get (Memory.cons a v m) b = Memory.get m b := by
  unfold Memory.cons
  split
  · rfl
  · simp [Memory.get_pair, Ne.symm h]

/-- A write leaves every other byte alone, in ANY list. -/
theorem Memory.get_set_other {a b : Nat} (h : b ≠ a) (v : Byte) (m : Memory) :
    Memory.get (Memory.set m a v) b = Memory.get m b := by
  induction m with
  | nil => simp [Memory.set, Memory.get_cons_other h]
  | cons c rest ih =>
    obtain ⟨k, w⟩ := c
    simp only [Memory.set]
    split
    · next hk => subst hk; rw [Memory.get_cons_other h, Memory.get_pair, if_neg (Ne.symm h)]
    · split
      · rw [Memory.get_cons_other h]
      · simp only [Memory.get_pair, ih]

theorem Memory.wfFrom_pair (low k : Nat) (v : Byte) (m : Memory) :
    Memory.wfFrom low ((k, v) :: m) = true ↔
      low ≤ k ∧ v ≠ Memory.blank ∧ Memory.wfFrom (k + 1) m = true := by
  simp [Memory.wfFrom, and_assoc]

/-- A lower bound on the offsets may be lowered. -/
theorem Memory.wfFrom_mono {low low' : Nat} (h : low' ≤ low) {m : Memory}
    (hm : Memory.wfFrom low m = true) : Memory.wfFrom low' m = true := by
  cases m with
  | nil => rfl
  | cons c rest =>
    obtain ⟨k, v⟩ := c
    rw [Memory.wfFrom_pair] at hm ⊢
    exact ⟨h.trans hm.1, hm.2⟩

/-- An offset below every listed one reads as the blank byte. -/
theorem Memory.get_below {low a : Nat} {m : Memory} (hm : Memory.wfFrom low m = true) (h : a < low) :
    Memory.get m a = Memory.blank := by
  induction m generalizing low with
  | nil => rfl
  | cons c rest ih =>
    obtain ⟨k, v⟩ := c
    rw [Memory.wfFrom_pair] at hm
    rw [Memory.get_pair, if_neg (by omega)]
    exact ih hm.2.2 (by omega)

theorem Memory.wfFrom_cons {low a : Nat} {v : Byte} {m : Memory} (h : low ≤ a)
    (hm : Memory.wfFrom (a + 1) m = true) : Memory.wfFrom low (Memory.cons a v m) = true := by
  unfold Memory.cons
  split
  · exact Memory.wfFrom_mono (by omega) hm
  · next hv => exact (Memory.wfFrom_pair ..).2 ⟨h, hv, hm⟩

theorem Memory.get_cons_same {a : Nat} {v : Byte} {m : Memory}
    (hm : Memory.wfFrom (a + 1) m = true) : Memory.get (Memory.cons a v m) a = v := by
  unfold Memory.cons
  split
  · next hv => rw [Memory.get_below hm (by omega), hv]
  · simp [Memory.get_pair]

theorem Memory.wfFrom_set {low a : Nat} {v : Byte} {m : Memory} (h : low ≤ a)
    (hm : Memory.wfFrom low m = true) : Memory.wfFrom low (Memory.set m a v) = true := by
  induction m generalizing low with
  | nil => exact Memory.wfFrom_cons h rfl
  | cons c rest ih =>
    obtain ⟨k, w⟩ := c
    rw [Memory.wfFrom_pair] at hm
    simp only [Memory.set]
    split
    · next hk => subst hk; exact Memory.wfFrom_cons h hm.2.2
    · split
      · next hk hlt =>
        exact Memory.wfFrom_cons h ((Memory.wfFrom_pair ..).2 ⟨by omega, hm.2⟩)
      · next hk hlt =>
        exact (Memory.wfFrom_pair ..).2 ⟨hm.1, hm.2.1, ih (by omega) hm.2.2⟩

/-- A write keeps the canonical form. -/
theorem Memory.wf_set {m : Memory} (hm : m.wf = true) (a : Nat) (v : Byte) :
    (Memory.set m a v).wf = true := Memory.wfFrom_set (Nat.zero_le _) hm

/-- A read after a write to the same offset gives the value written, in canonical form. -/
theorem Memory.get_set_same {m : Memory} (hm : m.wf = true) (a : Nat) (v : Byte) :
    Memory.get (Memory.set m a v) a = v := by
  suffices h : ∀ low, Memory.wfFrom low m = true → Memory.get (Memory.set m a v) a = v from h 0 hm
  clear hm
  induction m with
  | nil => intro _ _; exact Memory.get_cons_same rfl
  | cons c rest ih =>
    obtain ⟨k, w⟩ := c
    intro low hm
    rw [Memory.wfFrom_pair] at hm
    simp only [Memory.set]
    split
    · next hk => subst hk; exact Memory.get_cons_same hm.2.2
    · split
      · next hk hlt =>
        exact Memory.get_cons_same ((Memory.wfFrom_pair ..).2 ⟨by omega, hm.2⟩)
      · next hk hlt => rw [Memory.get_pair, if_neg hk]; exact ih _ hm.2.2

/-- The byte read at `b` after a write at `a`. -/
theorem Memory.get_set {m : Memory} (hm : m.wf = true) (a b : Nat) (v : Byte) :
    Memory.get (Memory.set m a v) b = if b = a then v else Memory.get m b := by
  split
  · next h => subst h; exact Memory.get_set_same hm b v
  · next h => exact Memory.get_set_other h v m

theorem Memory.within_cons {size a : Nat} {v : Byte} {m : Memory} (h : a < size)
    (hm : Memory.within size m = true) : Memory.within size (Memory.cons a v m) = true := by
  unfold Memory.cons
  split
  · exact hm
  · simpa [Memory.within, h] using hm

/-- A write below the size keeps every offset below the size. -/
theorem Memory.within_set {size a : Nat} {v : Byte} {m : Memory} (h : a < size)
    (hm : Memory.within size m = true) : Memory.within size (Memory.set m a v) = true := by
  induction m with
  | nil => exact Memory.within_cons h rfl
  | cons c rest ih =>
    obtain ⟨k, w⟩ := c
    have hk : k < size ∧ Memory.within size rest = true := by simpa [Memory.within] using hm
    simp only [Memory.set]
    split
    · exact Memory.within_cons h hk.2
    · split
      · exact Memory.within_cons h hm
      · have := ih hk.2
        simp only [Memory.within] at this ⊢
        simpa [hk.1] using this

theorem Memory.wfFrom_ofBytesAt (bs : List Byte) (a : Nat) :
    Memory.wfFrom a (Memory.ofBytesAt a bs) = true := by
  induction bs generalizing a with
  | nil => rfl
  | cons b bs ih => exact Memory.wfFrom_cons (Nat.le_refl a) (ih (a + 1))

/-- Bytes laid out from offset 0 are in canonical form. -/
theorem Memory.wf_ofBytes (bs : List Byte) : (Memory.ofBytes bs).wf = true :=
  Memory.wfFrom_ofBytesAt bs 0

theorem Memory.get_ofBytesAt (bs : List Byte) (a i : Nat) :
    Memory.get (Memory.ofBytesAt a bs) (a + i) = bs.getD i Memory.blank := by
  induction bs generalizing a i with
  | nil => simp [Memory.ofBytesAt]
  | cons b bs ih =>
    cases i with
    | zero => simpa [Memory.ofBytesAt] using Memory.get_cons_same (Memory.wfFrom_ofBytesAt bs (a + 1))
    | succ i =>
      rw [Memory.ofBytesAt, Memory.get_cons_other (by omega), ← Nat.add_assoc, Nat.add_right_comm]
      simpa using ih (a + 1) i

/-- Byte `i` of the laid-out bytes is the `i`-th of the list. -/
theorem Memory.get_ofBytes (bs : List Byte) (i : Nat) :
    Memory.get (Memory.ofBytes bs) i = bs.getD i Memory.blank := by
  simpa [Memory.ofBytes] using Memory.get_ofBytesAt bs 0 i

end Sys2Proof.Machine
end

