-- ==== Sys2Proof/Laws/Bus.lean ====
section
/-! SUPPORT. Laws of the CPU bus: what `Rd` and `Wr` leave alone, one lemma a field, and where they go.
Later proofs cite these and do not unfold the bus. -/

namespace Sys2Proof.Machine

/-! ### Address decoding -/

theorem readDest_ram {a : Word} (h : a.toNat ≤ 0x1FFF) : readDest a = .ram (ramOffset a) := by
  simp [readDest, h]

theorem writeDest_ram {a : Word} (h : a.toNat ≤ 0x1FFF) : writeDest a = .ram (ramOffset a) := by
  simp [writeDest, h]

theorem readDest_prgRom {a : Word} (h : 0x8000 ≤ a.toNat) : readDest a = .prgRom := by
  unfold readDest
  repeat (first | rw [if_neg (by omega)] | rfl)

theorem writeDest_prgRom {a : Word} (h : 0x8000 ≤ a.toNat) : writeDest a = .prgRom := by
  unfold writeDest
  repeat (first | rw [if_neg (by omega)] | rfl)

theorem ramOffset_eq (a : Word) : ramOffset a = a.toNat % 0x800 := by
  simp [ramOffset, bits]

theorem ramOffset_lt (a : Word) : ramOffset a < 2048 := by
  rw [ramOffset_eq]; omega

theorem prgRamOffset_lt (a : Word) : prgRamOffset a < 8192 := (bits a 0 13).isLt

/-- A CPU address in 0x0000..0x1FFF reads work RAM. -/
theorem peek_ram {a : Word} (h : a.toNat ≤ 0x1FFF) (s : State) :
    peek a s = s.ram.get (ramOffset a) := by
  simp [peek, readDest_ram h]

/-- A CPU address in 0x8000..0xFFFF reads program ROM. -/
theorem peek_prgRom {a : Word} (h : 0x8000 ≤ a.toNat) (s : State) :
    peek a s = readPrgRom s.cart s.mapper a := by
  simp [peek, readDest_prgRom h]

/-- A write to 0x0000..0x1FFF changes one byte of work RAM and nothing else. -/
theorem wr_ram {a : Word} (h : a.toNat ≤ 0x1FFF) (v : Byte) (s : State) :
    wr a v s = { s with ram := s.ram.set (ramOffset a) v } := by
  simp [wr, writeDest_ram h]

/-- A write to 0x8000..0xFFFF changes the mapper's registers and nothing else (R92). -/
theorem wr_prgRom {a : Word} (h : 0x8000 ≤ a.toNat) (v : Byte) (s : State) :
    wr a v s = { s with mapper := s.mapper.writePrgRom a v } := by
  simp [wr, writeDest_prgRom h]

/-! ### The read callback -/

/-- Every `Rd` leaves the value it returned in `bus_latch` (R94). -/
@[simp] theorem afterRd_busLatch (a : Word) (s : State) : (afterRd a s).busLatch = peek a s := rfl

/-- A read of plain storage changes `bus_latch` alone. -/
theorem afterRd_placeable {a : Word} {s : State}
    (h : readEffect a s = s) : afterRd a s = { s with busLatch := peek a s } := by
  simp [afterRd, h]

theorem readEffect_ram {a : Word} (h : a.toNat ≤ 0x1FFF) (s : State) : readEffect a s = s := by
  simp [readEffect, readDest_ram h]

theorem afterRd_of_ram {a : Word} (h : a.toNat ≤ 0x1FFF) (s : State) :
    afterRd a s = { s with busLatch := s.ram.get (ramOffset a) } := by
  simp [afterRd, readEffect_ram h, peek_ram h]

theorem readEffect_prgRom {a : Word} (h : 0x8000 ≤ a.toNat) (s : State) : readEffect a s = s := by
  simp [readEffect, readDest_prgRom h]

theorem afterRd_of_prgRom {a : Word} (h : 0x8000 ≤ a.toNat) (s : State) :
    afterRd a s = { s with busLatch := readPrgRom s.cart s.mapper a } := by
  simp [afterRd, readEffect_prgRom h, peek_prgRom h]

/-- What a register read of the video unit leaves alone (R113). -/
theorem ppuRegReadEffect_keeps (n : BitVec 3) (s : State) :
    ∃ v w vb rb io, ppuRegReadEffect n s =
      { s with ppu := { s.ppu with v := v, w := w, vblank := vb, readBuf := rb, ioLatch := io } } := by
  unfold ppuRegReadEffect
  split
  · exact ⟨_, _, _, _, _, rfl⟩
  · exact ⟨_, _, _, _, _, rfl⟩
  · exact ⟨_, _, _, _, _, rfl⟩
  · exact ⟨s.ppu.v, s.ppu.w, s.ppu.vblank, s.ppu.readBuf, s.ppu.ioLatch, rfl⟩

/-- Everything that a read can change: `bus_latch`, five fields of the video unit, the frame
interrupt flag and the two ports (R113). -/
theorem afterRd_cases (a : Word) (s : State) :
    ∃ v w vb rb io fi c0 c1, afterRd a s =
      { s with
        busLatch := peek a s
        ppu := { s.ppu with v := v, w := w, vblank := vb, readBuf := rb, ioLatch := io }
        apu := { s.apu with frameIrq := fi }
        ctl0 := c0
        ctl1 := c1 } := by
  unfold afterRd readEffect
  split
  · next n _ =>
    obtain ⟨v, w, vb, rb, io, h⟩ := ppuRegReadEffect_keeps n s
    exact ⟨v, w, vb, rb, io, s.apu.frameIrq, s.ctl0, s.ctl1, by rw [h]⟩
  all_goals
    exact ⟨s.ppu.v, s.ppu.w, s.ppu.vblank, s.ppu.readBuf, s.ppu.ioLatch, _, _, _, rfl⟩


@[simp] theorem afterRd_a (a : Word) (s : State) : (afterRd a s).a = s.a := by
  obtain ⟨_, _, _, _, _, _, _, _, h⟩ := afterRd_cases a s; rw [h]

@[simp] theorem afterRd_x (a : Word) (s : State) : (afterRd a s).x = s.x := by
  obtain ⟨_, _, _, _, _, _, _, _, h⟩ := afterRd_cases a s; rw [h]

@[simp] theorem afterRd_y (a : Word) (s : State) : (afterRd a s).y = s.y := by
  obtain ⟨_, _, _, _, _, _, _, _, h⟩ := afterRd_cases a s; rw [h]

@[simp] theorem afterRd_sp (a : Word) (s : State) : (afterRd a s).sp = s.sp := by
  obtain ⟨_, _, _, _, _, _, _, _, h⟩ := afterRd_cases a s; rw [h]

@[simp] theorem afterRd_pc (a : Word) (s : State) : (afterRd a s).pc = s.pc := by
  obtain ⟨_, _, _, _, _, _, _, _, h⟩ := afterRd_cases a s; rw [h]

@[simp] theorem afterRd_p (a : Word) (s : State) : (afterRd a s).p = s.p := by
  obtain ⟨_, _, _, _, _, _, _, _, h⟩ := afterRd_cases a s; rw [h]

@[simp] theorem afterRd_cyc (a : Word) (s : State) : (afterRd a s).cyc = s.cyc := by
  obtain ⟨_, _, _, _, _, _, _, _, h⟩ := afterRd_cases a s; rw [h]

@[simp] theorem afterRd_nmiPending (a : Word) (s : State) : (afterRd a s).nmiPending = s.nmiPending := by
  obtain ⟨_, _, _, _, _, _, _, _, h⟩ := afterRd_cases a s; rw [h]

@[simp] theorem afterRd_stall (a : Word) (s : State) : (afterRd a s).stall = s.stall := by
  obtain ⟨_, _, _, _, _, _, _, _, h⟩ := afterRd_cases a s; rw [h]

@[simp] theorem afterRd_cart (a : Word) (s : State) : (afterRd a s).cart = s.cart := by
  obtain ⟨_, _, _, _, _, _, _, _, h⟩ := afterRd_cases a s; rw [h]

@[simp] theorem afterRd_mapper (a : Word) (s : State) : (afterRd a s).mapper = s.mapper := by
  obtain ⟨_, _, _, _, _, _, _, _, h⟩ := afterRd_cases a s; rw [h]

@[simp] theorem afterRd_ram (a : Word) (s : State) : (afterRd a s).ram = s.ram := by
  obtain ⟨_, _, _, _, _, _, _, _, h⟩ := afterRd_cases a s; rw [h]

@[simp] theorem afterRd_vram (a : Word) (s : State) : (afterRd a s).vram = s.vram := by
  obtain ⟨_, _, _, _, _, _, _, _, h⟩ := afterRd_cases a s; rw [h]

@[simp] theorem afterRd_ctlStrobe (a : Word) (s : State) : (afterRd a s).ctlStrobe = s.ctlStrobe := by
  obtain ⟨_, _, _, _, _, _, _, _, h⟩ := afterRd_cases a s; rw [h]

@[simp] theorem afterRd_host (a : Word) (s : State) : (afterRd a s).host = s.host := by
  obtain ⟨_, _, _, _, _, _, _, _, h⟩ := afterRd_cases a s; rw [h]

@[simp] theorem afterRd_ppu_oam (a : Word) (s : State) : (afterRd a s).ppu.oam = s.ppu.oam := by
  obtain ⟨_, _, _, _, _, _, _, _, h⟩ := afterRd_cases a s; rw [h]

@[simp] theorem afterRd_ppu_pal (a : Word) (s : State) : (afterRd a s).ppu.pal = s.ppu.pal := by
  obtain ⟨_, _, _, _, _, _, _, _, h⟩ := afterRd_cases a s; rw [h]

@[simp] theorem afterRd_ppu_ctrl (a : Word) (s : State) : (afterRd a s).ppu.ctrl = s.ppu.ctrl := by
  obtain ⟨_, _, _, _, _, _, _, _, h⟩ := afterRd_cases a s; rw [h]

@[simp] theorem afterRd_ppu_mask (a : Word) (s : State) : (afterRd a s).ppu.mask = s.ppu.mask := by
  obtain ⟨_, _, _, _, _, _, _, _, h⟩ := afterRd_cases a s; rw [h]

@[simp] theorem afterRd_ppu_oamAddr (a : Word) (s : State) : (afterRd a s).ppu.oamAddr = s.ppu.oamAddr := by
  obtain ⟨_, _, _, _, _, _, _, _, h⟩ := afterRd_cases a s; rw [h]

@[simp] theorem afterRd_ppu_t (a : Word) (s : State) : (afterRd a s).ppu.t = s.ppu.t := by
  obtain ⟨_, _, _, _, _, _, _, _, h⟩ := afterRd_cases a s; rw [h]

@[simp] theorem afterRd_ppu_fineX (a : Word) (s : State) : (afterRd a s).ppu.fineX = s.ppu.fineX := by
  obtain ⟨_, _, _, _, _, _, _, _, h⟩ := afterRd_cases a s; rw [h]

@[simp] theorem afterRd_ppu_spr0Hit (a : Word) (s : State) : (afterRd a s).ppu.spr0Hit = s.ppu.spr0Hit := by
  obtain ⟨_, _, _, _, _, _, _, _, h⟩ := afterRd_cases a s; rw [h]

@[simp] theorem afterRd_ppu_sprOverflow (a : Word) (s : State) : (afterRd a s).ppu.sprOverflow = s.ppu.sprOverflow := by
  obtain ⟨_, _, _, _, _, _, _, _, h⟩ := afterRd_cases a s; rw [h]

@[simp] theorem afterRd_ppu_scanline (a : Word) (s : State) : (afterRd a s).ppu.scanline = s.ppu.scanline := by
  obtain ⟨_, _, _, _, _, _, _, _, h⟩ := afterRd_cases a s; rw [h]

@[simp] theorem afterRd_ppu_dot (a : Word) (s : State) : (afterRd a s).ppu.dot = s.ppu.dot := by
  obtain ⟨_, _, _, _, _, _, _, _, h⟩ := afterRd_cases a s; rw [h]

@[simp] theorem afterRd_ppu_odd (a : Word) (s : State) : (afterRd a s).ppu.odd = s.ppu.odd := by
  obtain ⟨_, _, _, _, _, _, _, _, h⟩ := afterRd_cases a s; rw [h]

@[simp] theorem afterRd_ppu_frame (a : Word) (s : State) : (afterRd a s).ppu.frame = s.ppu.frame := by
  obtain ⟨_, _, _, _, _, _, _, _, h⟩ := afterRd_cases a s; rw [h]

@[simp] theorem afterRd_ppu_slotCount (a : Word) (s : State) : (afterRd a s).ppu.slotCount = s.ppu.slotCount := by
  obtain ⟨_, _, _, _, _, _, _, _, h⟩ := afterRd_cases a s; rw [h]

@[simp] theorem afterRd_ppu_fb (a : Word) (s : State) : (afterRd a s).ppu.fb = s.ppu.fb := by
  obtain ⟨_, _, _, _, _, _, _, _, h⟩ := afterRd_cases a s; rw [h]

@[simp] theorem afterRd_ppu_frameReady (a : Word) (s : State) : (afterRd a s).ppu.frameReady = s.ppu.frameReady := by
  obtain ⟨_, _, _, _, _, _, _, _, h⟩ := afterRd_cases a s; rw [h]

@[simp] theorem afterRd_apu_pulse1 (a : Word) (s : State) : (afterRd a s).apu.pulse1 = s.apu.pulse1 := by
  obtain ⟨_, _, _, _, _, _, _, _, h⟩ := afterRd_cases a s; rw [h]

@[simp] theorem afterRd_apu_pulse2 (a : Word) (s : State) : (afterRd a s).apu.pulse2 = s.apu.pulse2 := by
  obtain ⟨_, _, _, _, _, _, _, _, h⟩ := afterRd_cases a s; rw [h]

@[simp] theorem afterRd_apu_triangle (a : Word) (s : State) : (afterRd a s).apu.triangle = s.apu.triangle := by
  obtain ⟨_, _, _, _, _, _, _, _, h⟩ := afterRd_cases a s; rw [h]

@[simp] theorem afterRd_apu_noise (a : Word) (s : State) : (afterRd a s).apu.noise = s.apu.noise := by
  obtain ⟨_, _, _, _, _, _, _, _, h⟩ := afterRd_cases a s; rw [h]

@[simp] theorem afterRd_apu_dmc (a : Word) (s : State) : (afterRd a s).apu.dmc = s.apu.dmc := by
  obtain ⟨_, _, _, _, _, _, _, _, h⟩ := afterRd_cases a s; rw [h]

@[simp] theorem afterRd_apu_fc (a : Word) (s : State) : (afterRd a s).apu.fc = s.apu.fc := by
  obtain ⟨_, _, _, _, _, _, _, _, h⟩ := afterRd_cases a s; rw [h]

@[simp] theorem afterRd_apu_fcMode (a : Word) (s : State) : (afterRd a s).apu.fcMode = s.apu.fcMode := by
  obtain ⟨_, _, _, _, _, _, _, _, h⟩ := afterRd_cases a s; rw [h]

@[simp] theorem afterRd_apu_irqInhibit (a : Word) (s : State) : (afterRd a s).apu.irqInhibit = s.apu.irqInhibit := by
  obtain ⟨_, _, _, _, _, _, _, _, h⟩ := afterRd_cases a s; rw [h]

@[simp] theorem afterRd_apu_parity (a : Word) (s : State) : (afterRd a s).apu.parity = s.apu.parity := by
  obtain ⟨_, _, _, _, _, _, _, _, h⟩ := afterRd_cases a s; rw [h]

@[simp] theorem afterRd_apu_sampleAcc (a : Word) (s : State) : (afterRd a s).apu.sampleAcc = s.apu.sampleAcc := by
  obtain ⟨_, _, _, _, _, _, _, _, h⟩ := afterRd_cases a s; rw [h]

/-! ### Plain storage is not disturbed by reads -/

/-- The byte at a plain-storage address is the same after any read. -/
theorem peek_afterRd_placeable (a b : Word) (s : State)
    (h : ∀ n, readDest b ≠ .ppuReg n) (h1 : readDest b ≠ .apuStatus) (h2 : readDest b ≠ .port0)
    (h3 : readDest b ≠ .port1) (h4 : readDest b ≠ .open)
    (h5 : readDest b = .prgRam → (prgRamAnswering s.cart s.mapper).isSome) :
    peek b (afterRd a s) = peek b s := by
  cases hd : readDest b with
  | ram o => simp [peek, hd]
  | prgRom => simp [peek, hd]
  | prgRam =>
    obtain ⟨m, hm⟩ := Option.isSome_iff_exists.1 (h5 hd)
    simp [peek, hd, readPrgRam, hm]
  | ppuReg n => exact absurd hd (h n)
  | apuStatus => exact absurd hd h1
  | port0 => exact absurd hd h2
  | port1 => exact absurd hd h3
  | _ => exact absurd hd h4

/-! ### The write callback -/

@[simp] theorem oamCopy_a (page : Byte) (n : Nat) (s : State) :
    (oamCopy page n s).a = s.a := by
  induction n generalizing s with
  | zero => rfl
  | succ n ih => simp [oamCopy, ih]

@[simp] theorem oamCopy_x (page : Byte) (n : Nat) (s : State) :
    (oamCopy page n s).x = s.x := by
  induction n generalizing s with
  | zero => rfl
  | succ n ih => simp [oamCopy, ih]

@[simp] theorem oamCopy_y (page : Byte) (n : Nat) (s : State) :
    (oamCopy page n s).y = s.y := by
  induction n generalizing s with
  | zero => rfl
  | succ n ih => simp [oamCopy, ih]

@[simp] theorem oamCopy_sp (page : Byte) (n : Nat) (s : State) :
    (oamCopy page n s).sp = s.sp := by
  induction n generalizing s with
  | zero => rfl
  | succ n ih => simp [oamCopy, ih]

@[simp] theorem oamCopy_pc (page : Byte) (n : Nat) (s : State) :
    (oamCopy page n s).pc = s.pc := by
  induction n generalizing s with
  | zero => rfl
  | succ n ih => simp [oamCopy, ih]

@[simp] theorem oamCopy_p (page : Byte) (n : Nat) (s : State) :
    (oamCopy page n s).p = s.p := by
  induction n generalizing s with
  | zero => rfl
  | succ n ih => simp [oamCopy, ih]

@[simp] theorem oamCopy_cyc (page : Byte) (n : Nat) (s : State) :
    (oamCopy page n s).cyc = s.cyc := by
  induction n generalizing s with
  | zero => rfl
  | succ n ih => simp [oamCopy, ih]

@[simp] theorem wr_a (a : Word) (v : Byte) (s : State) : (wr a v s).a = s.a := by
  unfold wr
  split
  · rfl
  · next n _ =>
    unfold ppuRegWrite
    split <;> first | rfl | (simp only [writeData, ppuWr]; split <;> (try split) <;> rfl)
  · simp [oamDma]
  all_goals rfl

@[simp] theorem wr_x (a : Word) (v : Byte) (s : State) : (wr a v s).x = s.x := by
  unfold wr
  split
  · rfl
  · next n _ =>
    unfold ppuRegWrite
    split <;> first | rfl | (simp only [writeData, ppuWr]; split <;> (try split) <;> rfl)
  · simp [oamDma]
  all_goals rfl

@[simp] theorem wr_y (a : Word) (v : Byte) (s : State) : (wr a v s).y = s.y := by
  unfold wr
  split
  · rfl
  · next n _ =>
    unfold ppuRegWrite
    split <;> first | rfl | (simp only [writeData, ppuWr]; split <;> (try split) <;> rfl)
  · simp [oamDma]
  all_goals rfl

@[simp] theorem wr_sp (a : Word) (v : Byte) (s : State) : (wr a v s).sp = s.sp := by
  unfold wr
  split
  · rfl
  · next n _ =>
    unfold ppuRegWrite
    split <;> first | rfl | (simp only [writeData, ppuWr]; split <;> (try split) <;> rfl)
  · simp [oamDma]
  all_goals rfl

@[simp] theorem wr_pc (a : Word) (v : Byte) (s : State) : (wr a v s).pc = s.pc := by
  unfold wr
  split
  · rfl
  · next n _ =>
    unfold ppuRegWrite
    split <;> first | rfl | (simp only [writeData, ppuWr]; split <;> (try split) <;> rfl)
  · simp [oamDma]
  all_goals rfl

@[simp] theorem wr_p (a : Word) (v : Byte) (s : State) : (wr a v s).p = s.p := by
  unfold wr
  split
  · rfl
  · next n _ =>
    unfold ppuRegWrite
    split <;> first | rfl | (simp only [writeData, ppuWr]; split <;> (try split) <;> rfl)
  · simp [oamDma]
  all_goals rfl

@[simp] theorem wr_cyc (a : Word) (v : Byte) (s : State) : (wr a v s).cyc = s.cyc := by
  unfold wr
  split
  · rfl
  · next n _ =>
    unfold ppuRegWrite
    split <;> first | rfl | (simp only [writeData, ppuWr]; split <;> (try split) <;> rfl)
  · simp [oamDma]
  all_goals rfl

end Sys2Proof.Machine
end

