-- ==== Sys2Proof/Laws/Config.lean ====
section
/-! SUPPORT. The configuration: the value of each parameter that has a default, the agreement of
`UNDOC_SET` and `UNASSIGNED_FORM` with the opcode table, and what the two wrappers of the undocumented
opcodes are at the defaults. -/

namespace Sys2Proof.Machine

@[simp] theorem config_vecNmi : config.vecNmi = 0xFFFA := rfl
@[simp] theorem config_vecReset : config.vecReset = 0xFFFC := rfl
@[simp] theorem config_vecIrq : config.vecIrq = 0xFFFE := rfl
@[simp] theorem config_stackBase : config.stackBase = 0x0100 := rfl
@[simp] theorem config_resetA : config.resetA = 0x00 := rfl
@[simp] theorem config_resetX : config.resetX = 0x00 := rfl
@[simp] theorem config_resetY : config.resetY = 0x00 := rfl
@[simp] theorem config_resetS : config.resetS = 0xFD := rfl
@[simp] theorem config_resetP : config.resetP = 0x24 := rfl
@[simp] theorem config_ramInit : config.ramInit = 0x00 := rfl
@[simp] theorem config_nopOperandRead : config.nopOperandRead = true := rfl
@[simp] theorem config_cycInterrupt : config.cycInterrupt = 7 := rfl
@[simp] theorem config_cycReset : config.cycReset = 7 := rfl
@[simp] theorem config_dmcStallCycles : config.dmcStallCycles = 4 := rfl
@[simp] theorem config_oamDmaCycles (cyc : Nat) : config.oamDmaCycles cyc = 513 + cyc % 2 := rfl
@[simp] theorem config_ctrlBitOfA : config.ctrlBitOfA = 0 := rfl
@[simp] theorem config_ctrlAfter8 : config.ctrlAfter8 = 0x01 := rfl
@[simp] theorem config_oddSkipRequiresRendering : config.oddSkipRequiresRendering = true := rfl
@[simp] theorem config_nmiOnEnableDuringVblank : config.nmiOnEnableDuringVblank = false := rfl
@[simp] theorem config_apuFrameCountsHalfRate : config.apuFrameCountsHalfRate = true := rfl
@[simp] theorem config_apuFinalStepAt (period : Nat) : config.apuFinalStepAt period = period - 1 := rfl
@[simp] theorem config_cpuFreqHz : config.cpuFreqHz = 1789773 := rfl
@[simp] theorem config_mix : config.mix = mixDefault := rfl
@[simp] theorem config_mmc1ResetSetsPrgMode : config.mmc1ResetSetsPrgMode = false := rfl
@[simp] theorem config_prgRamPresent : config.prgRamPresent = true := rfl

/-- With A in bit 0 the ports shift out the mask itself. -/
@[simp] theorem buttons_eq (mask : Byte) : buttons mask = mask := by
  simp [buttons, BitVec.rotateRight, BitVec.rotateRightAux]

/-- The instruction of an opcode byte with operand bytes 0. -/
def instrOf (op : Byte) : Instr :=
  match opcodeForm op with
  | .none i => i
  | .byte i => i 0
  | .word i => i 0

/-- `UNDOC_SET` is the class `undocumented` of the opcode table (R160, R161). -/
theorem undocSet_contains : ∀ n < 256,
    config.undocSet.contains (BitVec.ofNat 8 n) =
      ((instrOf (BitVec.ofNat 8 n)).opcodeClass == .undocumented) := by
  decide +kernel

/-- The bytes of `UNASSIGNED_FORM` are the class `unassigned` of the opcode table, and the form of each
is the one of the matrix: length, cycles, penalty (R162). -/
theorem unassignedForm_lookup : ∀ n < 256,
    config.unassignedForm.lookup (BitVec.ofNat 8 n) =
      let i := instrOf (BitVec.ofNat 8 n)
      if i.opcodeClass = .unassigned then
        some ⟨i.length, baseCycles i.opcode, pagePenalty i.opcode⟩
      else none := by
  decide +kernel

/-- An opcode of `UNDOC_SET` has its meaning (`simp (disch := decide) only [undocInstr_eq]`). -/
theorem undocInstr_eq {op : Byte} (h : config.undocSet.contains op = true) (o : Operand)
    (meaning : State → Result) (s : State) : undocInstr op o meaning s = meaning s := by
  rw [undocInstr, if_pos h]

/-- An opcode of `UNASSIGNED_FORM` whose form has the length of its format is a no-operation. -/
theorem unassignedInstr_eq {op : Byte} {f : NopForm} {o : Operand}
    (h : config.unassignedForm.lookup op = some f) (hl : f.length = o.length) (s : State) :
    unassignedInstr op o s = nopInstr o f.cycles f.pageCross s := by
  simp only [unassignedInstr, unassignedFormOf, h, Option.getD_some, hl, nopInstr, retire]

end Sys2Proof.Machine
end

