-- ==== Sys2Proof/Laws/State.lean ====
section
/-! SUPPORT. One lemma per field per update of the shared record updates (registers, flags, the end of
an instruction), all true by unfolding once, so that later proofs never unfold an update. -/

namespace Sys2Proof.Machine

@[simp] theorem retire_a (o : Operand) (n : Nat) (s : State) : (retire o n s).a = s.a := rfl
@[simp] theorem retire_x (o : Operand) (n : Nat) (s : State) : (retire o n s).x = s.x := rfl
@[simp] theorem retire_y (o : Operand) (n : Nat) (s : State) : (retire o n s).y = s.y := rfl
@[simp] theorem retire_sp (o : Operand) (n : Nat) (s : State) : (retire o n s).sp = s.sp := rfl
@[simp] theorem retire_pc (o : Operand) (n : Nat) (s : State) :
    (retire o n s).pc = s.pc + BitVec.ofNat 16 o.length := rfl
@[simp] theorem retire_p (o : Operand) (n : Nat) (s : State) : (retire o n s).p = s.p := rfl
@[simp] theorem retire_cyc (o : Operand) (n : Nat) (s : State) :
    (retire o n s).cyc = s.cyc + n := rfl
@[simp] theorem retire_nmiPending (o : Operand) (n : Nat) (s : State) :
    (retire o n s).nmiPending = s.nmiPending := rfl
@[simp] theorem retire_stall (o : Operand) (n : Nat) (s : State) :
    (retire o n s).stall = s.stall := rfl
@[simp] theorem retire_ppu (o : Operand) (n : Nat) (s : State) : (retire o n s).ppu = s.ppu := rfl
@[simp] theorem retire_apu (o : Operand) (n : Nat) (s : State) : (retire o n s).apu = s.apu := rfl
@[simp] theorem retire_cart (o : Operand) (n : Nat) (s : State) :
    (retire o n s).cart = s.cart := rfl
@[simp] theorem retire_mapper (o : Operand) (n : Nat) (s : State) :
    (retire o n s).mapper = s.mapper := rfl
@[simp] theorem retire_ram (o : Operand) (n : Nat) (s : State) : (retire o n s).ram = s.ram := rfl
@[simp] theorem retire_vram (o : Operand) (n : Nat) (s : State) :
    (retire o n s).vram = s.vram := rfl
@[simp] theorem retire_busLatch (o : Operand) (n : Nat) (s : State) :
    (retire o n s).busLatch = s.busLatch := rfl
@[simp] theorem retire_ctlStrobe (o : Operand) (n : Nat) (s : State) :
    (retire o n s).ctlStrobe = s.ctlStrobe := rfl
@[simp] theorem retire_ctl0 (o : Operand) (n : Nat) (s : State) :
    (retire o n s).ctl0 = s.ctl0 := rfl
@[simp] theorem retire_ctl1 (o : Operand) (n : Nat) (s : State) :
    (retire o n s).ctl1 = s.ctl1 := rfl
@[simp] theorem retire_host (o : Operand) (n : Nat) (s : State) :
    (retire o n s).host = s.host := rfl

@[simp] theorem retireTo_a (w : Word) (n : Nat) (s : State) : (retireTo w n s).a = s.a := rfl
@[simp] theorem retireTo_x (w : Word) (n : Nat) (s : State) : (retireTo w n s).x = s.x := rfl
@[simp] theorem retireTo_y (w : Word) (n : Nat) (s : State) : (retireTo w n s).y = s.y := rfl
@[simp] theorem retireTo_sp (w : Word) (n : Nat) (s : State) : (retireTo w n s).sp = s.sp := rfl
@[simp] theorem retireTo_pc (w : Word) (n : Nat) (s : State) : (retireTo w n s).pc = w := rfl
@[simp] theorem retireTo_p (w : Word) (n : Nat) (s : State) : (retireTo w n s).p = s.p := rfl
@[simp] theorem retireTo_cyc (w : Word) (n : Nat) (s : State) :
    (retireTo w n s).cyc = s.cyc + n := rfl
@[simp] theorem retireTo_nmiPending (w : Word) (n : Nat) (s : State) :
    (retireTo w n s).nmiPending = s.nmiPending := rfl
@[simp] theorem retireTo_stall (w : Word) (n : Nat) (s : State) :
    (retireTo w n s).stall = s.stall := rfl
@[simp] theorem retireTo_ppu (w : Word) (n : Nat) (s : State) : (retireTo w n s).ppu = s.ppu := rfl
@[simp] theorem retireTo_apu (w : Word) (n : Nat) (s : State) : (retireTo w n s).apu = s.apu := rfl
@[simp] theorem retireTo_cart (w : Word) (n : Nat) (s : State) :
    (retireTo w n s).cart = s.cart := rfl
@[simp] theorem retireTo_mapper (w : Word) (n : Nat) (s : State) :
    (retireTo w n s).mapper = s.mapper := rfl
@[simp] theorem retireTo_ram (w : Word) (n : Nat) (s : State) : (retireTo w n s).ram = s.ram := rfl
@[simp] theorem retireTo_vram (w : Word) (n : Nat) (s : State) :
    (retireTo w n s).vram = s.vram := rfl
@[simp] theorem retireTo_busLatch (w : Word) (n : Nat) (s : State) :
    (retireTo w n s).busLatch = s.busLatch := rfl
@[simp] theorem retireTo_ctlStrobe (w : Word) (n : Nat) (s : State) :
    (retireTo w n s).ctlStrobe = s.ctlStrobe := rfl
@[simp] theorem retireTo_ctl0 (w : Word) (n : Nat) (s : State) :
    (retireTo w n s).ctl0 = s.ctl0 := rfl
@[simp] theorem retireTo_ctl1 (w : Word) (n : Nat) (s : State) :
    (retireTo w n s).ctl1 = s.ctl1 := rfl
@[simp] theorem retireTo_host (w : Word) (n : Nat) (s : State) :
    (retireTo w n s).host = s.host := rfl

@[simp] theorem State.adc_a (m : Byte) (s : State) :
    (s.adc m).a = adcByte s.a m (getFlag .C s.p) := rfl
@[simp] theorem State.adc_x (m : Byte) (s : State) : (s.adc m).x = s.x := rfl
@[simp] theorem State.adc_y (m : Byte) (s : State) : (s.adc m).y = s.y := rfl
@[simp] theorem State.adc_sp (m : Byte) (s : State) : (s.adc m).sp = s.sp := rfl
@[simp] theorem State.adc_pc (m : Byte) (s : State) : (s.adc m).pc = s.pc := rfl
@[simp] theorem State.adc_p (m : Byte) (s : State) : (s.adc m).p = adcFlags s.a m s.p := rfl
@[simp] theorem State.adc_cyc (m : Byte) (s : State) : (s.adc m).cyc = s.cyc := rfl
@[simp] theorem State.adc_nmiPending (m : Byte) (s : State) :
    (s.adc m).nmiPending = s.nmiPending := rfl
@[simp] theorem State.adc_stall (m : Byte) (s : State) : (s.adc m).stall = s.stall := rfl
@[simp] theorem State.adc_ppu (m : Byte) (s : State) : (s.adc m).ppu = s.ppu := rfl
@[simp] theorem State.adc_apu (m : Byte) (s : State) : (s.adc m).apu = s.apu := rfl
@[simp] theorem State.adc_cart (m : Byte) (s : State) : (s.adc m).cart = s.cart := rfl
@[simp] theorem State.adc_mapper (m : Byte) (s : State) : (s.adc m).mapper = s.mapper := rfl
@[simp] theorem State.adc_ram (m : Byte) (s : State) : (s.adc m).ram = s.ram := rfl
@[simp] theorem State.adc_vram (m : Byte) (s : State) : (s.adc m).vram = s.vram := rfl
@[simp] theorem State.adc_busLatch (m : Byte) (s : State) : (s.adc m).busLatch = s.busLatch := rfl
@[simp] theorem State.adc_ctlStrobe (m : Byte) (s : State) :
    (s.adc m).ctlStrobe = s.ctlStrobe := rfl
@[simp] theorem State.adc_ctl0 (m : Byte) (s : State) : (s.adc m).ctl0 = s.ctl0 := rfl
@[simp] theorem State.adc_ctl1 (m : Byte) (s : State) : (s.adc m).ctl1 = s.ctl1 := rfl
@[simp] theorem State.adc_host (m : Byte) (s : State) : (s.adc m).host = s.host := rfl

@[simp] theorem State.compare_a (r : Reg) (m : Byte) (s : State) : (s.compare r m).a = s.a := rfl
@[simp] theorem State.compare_x (r : Reg) (m : Byte) (s : State) : (s.compare r m).x = s.x := rfl
@[simp] theorem State.compare_y (r : Reg) (m : Byte) (s : State) : (s.compare r m).y = s.y := rfl
@[simp] theorem State.compare_sp (r : Reg) (m : Byte) (s : State) : (s.compare r m).sp = s.sp := rfl
@[simp] theorem State.compare_pc (r : Reg) (m : Byte) (s : State) : (s.compare r m).pc = s.pc := rfl
@[simp] theorem State.compare_p (r : Reg) (m : Byte) (s : State) :
    (s.compare r m).p = cmpFlags (s.reg r) m s.p := rfl
@[simp] theorem State.compare_cyc (r : Reg) (m : Byte) (s : State) :
    (s.compare r m).cyc = s.cyc := rfl
@[simp] theorem State.compare_nmiPending (r : Reg) (m : Byte) (s : State) :
    (s.compare r m).nmiPending = s.nmiPending := rfl
@[simp] theorem State.compare_stall (r : Reg) (m : Byte) (s : State) :
    (s.compare r m).stall = s.stall := rfl
@[simp] theorem State.compare_ppu (r : Reg) (m : Byte) (s : State) :
    (s.compare r m).ppu = s.ppu := rfl
@[simp] theorem State.compare_apu (r : Reg) (m : Byte) (s : State) :
    (s.compare r m).apu = s.apu := rfl
@[simp] theorem State.compare_cart (r : Reg) (m : Byte) (s : State) :
    (s.compare r m).cart = s.cart := rfl
@[simp] theorem State.compare_mapper (r : Reg) (m : Byte) (s : State) :
    (s.compare r m).mapper = s.mapper := rfl
@[simp] theorem State.compare_ram (r : Reg) (m : Byte) (s : State) :
    (s.compare r m).ram = s.ram := rfl
@[simp] theorem State.compare_vram (r : Reg) (m : Byte) (s : State) :
    (s.compare r m).vram = s.vram := rfl
@[simp] theorem State.compare_busLatch (r : Reg) (m : Byte) (s : State) :
    (s.compare r m).busLatch = s.busLatch := rfl
@[simp] theorem State.compare_ctlStrobe (r : Reg) (m : Byte) (s : State) :
    (s.compare r m).ctlStrobe = s.ctlStrobe := rfl
@[simp] theorem State.compare_ctl0 (r : Reg) (m : Byte) (s : State) :
    (s.compare r m).ctl0 = s.ctl0 := rfl
@[simp] theorem State.compare_ctl1 (r : Reg) (m : Byte) (s : State) :
    (s.compare r m).ctl1 = s.ctl1 := rfl
@[simp] theorem State.compare_host (r : Reg) (m : Byte) (s : State) :
    (s.compare r m).host = s.host := rfl

@[simp] theorem shiftFlags_a (c : Bool) (r : Byte) (s : State) : (shiftFlags c r s).a = s.a := rfl
@[simp] theorem shiftFlags_x (c : Bool) (r : Byte) (s : State) : (shiftFlags c r s).x = s.x := rfl
@[simp] theorem shiftFlags_y (c : Bool) (r : Byte) (s : State) : (shiftFlags c r s).y = s.y := rfl
@[simp] theorem shiftFlags_sp (c : Bool) (r : Byte) (s : State) :
    (shiftFlags c r s).sp = s.sp := rfl
@[simp] theorem shiftFlags_pc (c : Bool) (r : Byte) (s : State) :
    (shiftFlags c r s).pc = s.pc := rfl
@[simp] theorem shiftFlags_p (c : Bool) (r : Byte) (s : State) :
    (shiftFlags c r s).p = setZN r (putFlag .C c s.p) := rfl
@[simp] theorem shiftFlags_cyc (c : Bool) (r : Byte) (s : State) :
    (shiftFlags c r s).cyc = s.cyc := rfl
@[simp] theorem shiftFlags_nmiPending (c : Bool) (r : Byte) (s : State) :
    (shiftFlags c r s).nmiPending = s.nmiPending := rfl
@[simp] theorem shiftFlags_stall (c : Bool) (r : Byte) (s : State) :
    (shiftFlags c r s).stall = s.stall := rfl
@[simp] theorem shiftFlags_ppu (c : Bool) (r : Byte) (s : State) :
    (shiftFlags c r s).ppu = s.ppu := rfl
@[simp] theorem shiftFlags_apu (c : Bool) (r : Byte) (s : State) :
    (shiftFlags c r s).apu = s.apu := rfl
@[simp] theorem shiftFlags_cart (c : Bool) (r : Byte) (s : State) :
    (shiftFlags c r s).cart = s.cart := rfl
@[simp] theorem shiftFlags_mapper (c : Bool) (r : Byte) (s : State) :
    (shiftFlags c r s).mapper = s.mapper := rfl
@[simp] theorem shiftFlags_ram (c : Bool) (r : Byte) (s : State) :
    (shiftFlags c r s).ram = s.ram := rfl
@[simp] theorem shiftFlags_vram (c : Bool) (r : Byte) (s : State) :
    (shiftFlags c r s).vram = s.vram := rfl
@[simp] theorem shiftFlags_busLatch (c : Bool) (r : Byte) (s : State) :
    (shiftFlags c r s).busLatch = s.busLatch := rfl
@[simp] theorem shiftFlags_ctlStrobe (c : Bool) (r : Byte) (s : State) :
    (shiftFlags c r s).ctlStrobe = s.ctlStrobe := rfl
@[simp] theorem shiftFlags_ctl0 (c : Bool) (r : Byte) (s : State) :
    (shiftFlags c r s).ctl0 = s.ctl0 := rfl
@[simp] theorem shiftFlags_ctl1 (c : Bool) (r : Byte) (s : State) :
    (shiftFlags c r s).ctl1 = s.ctl1 := rfl
@[simp] theorem shiftFlags_host (c : Bool) (r : Byte) (s : State) :
    (shiftFlags c r s).host = s.host := rfl

@[simp] theorem State.setRegA_a (v : Byte) (s : State) : (s.setReg .A v).a = v := rfl
@[simp] theorem State.setRegA_x (v : Byte) (s : State) : (s.setReg .A v).x = s.x := rfl
@[simp] theorem State.setRegA_y (v : Byte) (s : State) : (s.setReg .A v).y = s.y := rfl
@[simp] theorem State.setRegA_sp (v : Byte) (s : State) : (s.setReg .A v).sp = s.sp := rfl
@[simp] theorem State.setRegA_pc (v : Byte) (s : State) : (s.setReg .A v).pc = s.pc := rfl
@[simp] theorem State.setRegA_p (v : Byte) (s : State) : (s.setReg .A v).p = s.p := rfl
@[simp] theorem State.setRegA_cyc (v : Byte) (s : State) : (s.setReg .A v).cyc = s.cyc := rfl
@[simp] theorem State.setRegA_nmiPending (v : Byte) (s : State) :
    (s.setReg .A v).nmiPending = s.nmiPending := rfl
@[simp] theorem State.setRegA_stall (v : Byte) (s : State) : (s.setReg .A v).stall = s.stall := rfl
@[simp] theorem State.setRegA_ppu (v : Byte) (s : State) : (s.setReg .A v).ppu = s.ppu := rfl
@[simp] theorem State.setRegA_apu (v : Byte) (s : State) : (s.setReg .A v).apu = s.apu := rfl
@[simp] theorem State.setRegA_cart (v : Byte) (s : State) : (s.setReg .A v).cart = s.cart := rfl
@[simp] theorem State.setRegA_mapper (v : Byte) (s : State) :
    (s.setReg .A v).mapper = s.mapper := rfl
@[simp] theorem State.setRegA_ram (v : Byte) (s : State) : (s.setReg .A v).ram = s.ram := rfl
@[simp] theorem State.setRegA_vram (v : Byte) (s : State) : (s.setReg .A v).vram = s.vram := rfl
@[simp] theorem State.setRegA_busLatch (v : Byte) (s : State) :
    (s.setReg .A v).busLatch = s.busLatch := rfl
@[simp] theorem State.setRegA_ctlStrobe (v : Byte) (s : State) :
    (s.setReg .A v).ctlStrobe = s.ctlStrobe := rfl
@[simp] theorem State.setRegA_ctl0 (v : Byte) (s : State) : (s.setReg .A v).ctl0 = s.ctl0 := rfl
@[simp] theorem State.setRegA_ctl1 (v : Byte) (s : State) : (s.setReg .A v).ctl1 = s.ctl1 := rfl
@[simp] theorem State.setRegA_host (v : Byte) (s : State) : (s.setReg .A v).host = s.host := rfl

@[simp] theorem State.loadRegA_a (v : Byte) (s : State) : (s.loadReg .A v).a = v := rfl
@[simp] theorem State.loadRegA_x (v : Byte) (s : State) : (s.loadReg .A v).x = s.x := rfl
@[simp] theorem State.loadRegA_y (v : Byte) (s : State) : (s.loadReg .A v).y = s.y := rfl
@[simp] theorem State.loadRegA_sp (v : Byte) (s : State) : (s.loadReg .A v).sp = s.sp := rfl
@[simp] theorem State.loadRegA_pc (v : Byte) (s : State) : (s.loadReg .A v).pc = s.pc := rfl
@[simp] theorem State.loadRegA_p (v : Byte) (s : State) : (s.loadReg .A v).p = setZN v s.p := rfl
@[simp] theorem State.loadRegA_cyc (v : Byte) (s : State) : (s.loadReg .A v).cyc = s.cyc := rfl
@[simp] theorem State.loadRegA_nmiPending (v : Byte) (s : State) :
    (s.loadReg .A v).nmiPending = s.nmiPending := rfl
@[simp] theorem State.loadRegA_stall (v : Byte) (s : State) :
    (s.loadReg .A v).stall = s.stall := rfl
@[simp] theorem State.loadRegA_ppu (v : Byte) (s : State) : (s.loadReg .A v).ppu = s.ppu := rfl
@[simp] theorem State.loadRegA_apu (v : Byte) (s : State) : (s.loadReg .A v).apu = s.apu := rfl
@[simp] theorem State.loadRegA_cart (v : Byte) (s : State) : (s.loadReg .A v).cart = s.cart := rfl
@[simp] theorem State.loadRegA_mapper (v : Byte) (s : State) :
    (s.loadReg .A v).mapper = s.mapper := rfl
@[simp] theorem State.loadRegA_ram (v : Byte) (s : State) : (s.loadReg .A v).ram = s.ram := rfl
@[simp] theorem State.loadRegA_vram (v : Byte) (s : State) : (s.loadReg .A v).vram = s.vram := rfl
@[simp] theorem State.loadRegA_busLatch (v : Byte) (s : State) :
    (s.loadReg .A v).busLatch = s.busLatch := rfl
@[simp] theorem State.loadRegA_ctlStrobe (v : Byte) (s : State) :
    (s.loadReg .A v).ctlStrobe = s.ctlStrobe := rfl
@[simp] theorem State.loadRegA_ctl0 (v : Byte) (s : State) : (s.loadReg .A v).ctl0 = s.ctl0 := rfl
@[simp] theorem State.loadRegA_ctl1 (v : Byte) (s : State) : (s.loadReg .A v).ctl1 = s.ctl1 := rfl
@[simp] theorem State.loadRegA_host (v : Byte) (s : State) : (s.loadReg .A v).host = s.host := rfl

@[simp] theorem State.setRegX_a (v : Byte) (s : State) : (s.setReg .X v).a = s.a := rfl
@[simp] theorem State.setRegX_x (v : Byte) (s : State) : (s.setReg .X v).x = v := rfl
@[simp] theorem State.setRegX_y (v : Byte) (s : State) : (s.setReg .X v).y = s.y := rfl
@[simp] theorem State.setRegX_sp (v : Byte) (s : State) : (s.setReg .X v).sp = s.sp := rfl
@[simp] theorem State.setRegX_pc (v : Byte) (s : State) : (s.setReg .X v).pc = s.pc := rfl
@[simp] theorem State.setRegX_p (v : Byte) (s : State) : (s.setReg .X v).p = s.p := rfl
@[simp] theorem State.setRegX_cyc (v : Byte) (s : State) : (s.setReg .X v).cyc = s.cyc := rfl
@[simp] theorem State.setRegX_nmiPending (v : Byte) (s : State) :
    (s.setReg .X v).nmiPending = s.nmiPending := rfl
@[simp] theorem State.setRegX_stall (v : Byte) (s : State) : (s.setReg .X v).stall = s.stall := rfl
@[simp] theorem State.setRegX_ppu (v : Byte) (s : State) : (s.setReg .X v).ppu = s.ppu := rfl
@[simp] theorem State.setRegX_apu (v : Byte) (s : State) : (s.setReg .X v).apu = s.apu := rfl
@[simp] theorem State.setRegX_cart (v : Byte) (s : State) : (s.setReg .X v).cart = s.cart := rfl
@[simp] theorem State.setRegX_mapper (v : Byte) (s : State) :
    (s.setReg .X v).mapper = s.mapper := rfl
@[simp] theorem State.setRegX_ram (v : Byte) (s : State) : (s.setReg .X v).ram = s.ram := rfl
@[simp] theorem State.setRegX_vram (v : Byte) (s : State) : (s.setReg .X v).vram = s.vram := rfl
@[simp] theorem State.setRegX_busLatch (v : Byte) (s : State) :
    (s.setReg .X v).busLatch = s.busLatch := rfl
@[simp] theorem State.setRegX_ctlStrobe (v : Byte) (s : State) :
    (s.setReg .X v).ctlStrobe = s.ctlStrobe := rfl
@[simp] theorem State.setRegX_ctl0 (v : Byte) (s : State) : (s.setReg .X v).ctl0 = s.ctl0 := rfl
@[simp] theorem State.setRegX_ctl1 (v : Byte) (s : State) : (s.setReg .X v).ctl1 = s.ctl1 := rfl
@[simp] theorem State.setRegX_host (v : Byte) (s : State) : (s.setReg .X v).host = s.host := rfl

@[simp] theorem State.loadRegX_a (v : Byte) (s : State) : (s.loadReg .X v).a = s.a := rfl
@[simp] theorem State.loadRegX_x (v : Byte) (s : State) : (s.loadReg .X v).x = v := rfl
@[simp] theorem State.loadRegX_y (v : Byte) (s : State) : (s.loadReg .X v).y = s.y := rfl
@[simp] theorem State.loadRegX_sp (v : Byte) (s : State) : (s.loadReg .X v).sp = s.sp := rfl
@[simp] theorem State.loadRegX_pc (v : Byte) (s : State) : (s.loadReg .X v).pc = s.pc := rfl
@[simp] theorem State.loadRegX_p (v : Byte) (s : State) : (s.loadReg .X v).p = setZN v s.p := rfl
@[simp] theorem State.loadRegX_cyc (v : Byte) (s : State) : (s.loadReg .X v).cyc = s.cyc := rfl
@[simp] theorem State.loadRegX_nmiPending (v : Byte) (s : State) :
    (s.loadReg .X v).nmiPending = s.nmiPending := rfl
@[simp] theorem State.loadRegX_stall (v : Byte) (s : State) :
    (s.loadReg .X v).stall = s.stall := rfl
@[simp] theorem State.loadRegX_ppu (v : Byte) (s : State) : (s.loadReg .X v).ppu = s.ppu := rfl
@[simp] theorem State.loadRegX_apu (v : Byte) (s : State) : (s.loadReg .X v).apu = s.apu := rfl
@[simp] theorem State.loadRegX_cart (v : Byte) (s : State) : (s.loadReg .X v).cart = s.cart := rfl
@[simp] theorem State.loadRegX_mapper (v : Byte) (s : State) :
    (s.loadReg .X v).mapper = s.mapper := rfl
@[simp] theorem State.loadRegX_ram (v : Byte) (s : State) : (s.loadReg .X v).ram = s.ram := rfl
@[simp] theorem State.loadRegX_vram (v : Byte) (s : State) : (s.loadReg .X v).vram = s.vram := rfl
@[simp] theorem State.loadRegX_busLatch (v : Byte) (s : State) :
    (s.loadReg .X v).busLatch = s.busLatch := rfl
@[simp] theorem State.loadRegX_ctlStrobe (v : Byte) (s : State) :
    (s.loadReg .X v).ctlStrobe = s.ctlStrobe := rfl
@[simp] theorem State.loadRegX_ctl0 (v : Byte) (s : State) : (s.loadReg .X v).ctl0 = s.ctl0 := rfl
@[simp] theorem State.loadRegX_ctl1 (v : Byte) (s : State) : (s.loadReg .X v).ctl1 = s.ctl1 := rfl
@[simp] theorem State.loadRegX_host (v : Byte) (s : State) : (s.loadReg .X v).host = s.host := rfl

@[simp] theorem State.setRegY_a (v : Byte) (s : State) : (s.setReg .Y v).a = s.a := rfl
@[simp] theorem State.setRegY_x (v : Byte) (s : State) : (s.setReg .Y v).x = s.x := rfl
@[simp] theorem State.setRegY_y (v : Byte) (s : State) : (s.setReg .Y v).y = v := rfl
@[simp] theorem State.setRegY_sp (v : Byte) (s : State) : (s.setReg .Y v).sp = s.sp := rfl
@[simp] theorem State.setRegY_pc (v : Byte) (s : State) : (s.setReg .Y v).pc = s.pc := rfl
@[simp] theorem State.setRegY_p (v : Byte) (s : State) : (s.setReg .Y v).p = s.p := rfl
@[simp] theorem State.setRegY_cyc (v : Byte) (s : State) : (s.setReg .Y v).cyc = s.cyc := rfl
@[simp] theorem State.setRegY_nmiPending (v : Byte) (s : State) :
    (s.setReg .Y v).nmiPending = s.nmiPending := rfl
@[simp] theorem State.setRegY_stall (v : Byte) (s : State) : (s.setReg .Y v).stall = s.stall := rfl
@[simp] theorem State.setRegY_ppu (v : Byte) (s : State) : (s.setReg .Y v).ppu = s.ppu := rfl
@[simp] theorem State.setRegY_apu (v : Byte) (s : State) : (s.setReg .Y v).apu = s.apu := rfl
@[simp] theorem State.setRegY_cart (v : Byte) (s : State) : (s.setReg .Y v).cart = s.cart := rfl
@[simp] theorem State.setRegY_mapper (v : Byte) (s : State) :
    (s.setReg .Y v).mapper = s.mapper := rfl
@[simp] theorem State.setRegY_ram (v : Byte) (s : State) : (s.setReg .Y v).ram = s.ram := rfl
@[simp] theorem State.setRegY_vram (v : Byte) (s : State) : (s.setReg .Y v).vram = s.vram := rfl
@[simp] theorem State.setRegY_busLatch (v : Byte) (s : State) :
    (s.setReg .Y v).busLatch = s.busLatch := rfl
@[simp] theorem State.setRegY_ctlStrobe (v : Byte) (s : State) :
    (s.setReg .Y v).ctlStrobe = s.ctlStrobe := rfl
@[simp] theorem State.setRegY_ctl0 (v : Byte) (s : State) : (s.setReg .Y v).ctl0 = s.ctl0 := rfl
@[simp] theorem State.setRegY_ctl1 (v : Byte) (s : State) : (s.setReg .Y v).ctl1 = s.ctl1 := rfl
@[simp] theorem State.setRegY_host (v : Byte) (s : State) : (s.setReg .Y v).host = s.host := rfl

@[simp] theorem State.loadRegY_a (v : Byte) (s : State) : (s.loadReg .Y v).a = s.a := rfl
@[simp] theorem State.loadRegY_x (v : Byte) (s : State) : (s.loadReg .Y v).x = s.x := rfl
@[simp] theorem State.loadRegY_y (v : Byte) (s : State) : (s.loadReg .Y v).y = v := rfl
@[simp] theorem State.loadRegY_sp (v : Byte) (s : State) : (s.loadReg .Y v).sp = s.sp := rfl
@[simp] theorem State.loadRegY_pc (v : Byte) (s : State) : (s.loadReg .Y v).pc = s.pc := rfl
@[simp] theorem State.loadRegY_p (v : Byte) (s : State) : (s.loadReg .Y v).p = setZN v s.p := rfl
@[simp] theorem State.loadRegY_cyc (v : Byte) (s : State) : (s.loadReg .Y v).cyc = s.cyc := rfl
@[simp] theorem State.loadRegY_nmiPending (v : Byte) (s : State) :
    (s.loadReg .Y v).nmiPending = s.nmiPending := rfl
@[simp] theorem State.loadRegY_stall (v : Byte) (s : State) :
    (s.loadReg .Y v).stall = s.stall := rfl
@[simp] theorem State.loadRegY_ppu (v : Byte) (s : State) : (s.loadReg .Y v).ppu = s.ppu := rfl
@[simp] theorem State.loadRegY_apu (v : Byte) (s : State) : (s.loadReg .Y v).apu = s.apu := rfl
@[simp] theorem State.loadRegY_cart (v : Byte) (s : State) : (s.loadReg .Y v).cart = s.cart := rfl
@[simp] theorem State.loadRegY_mapper (v : Byte) (s : State) :
    (s.loadReg .Y v).mapper = s.mapper := rfl
@[simp] theorem State.loadRegY_ram (v : Byte) (s : State) : (s.loadReg .Y v).ram = s.ram := rfl
@[simp] theorem State.loadRegY_vram (v : Byte) (s : State) : (s.loadReg .Y v).vram = s.vram := rfl
@[simp] theorem State.loadRegY_busLatch (v : Byte) (s : State) :
    (s.loadReg .Y v).busLatch = s.busLatch := rfl
@[simp] theorem State.loadRegY_ctlStrobe (v : Byte) (s : State) :
    (s.loadReg .Y v).ctlStrobe = s.ctlStrobe := rfl
@[simp] theorem State.loadRegY_ctl0 (v : Byte) (s : State) : (s.loadReg .Y v).ctl0 = s.ctl0 := rfl
@[simp] theorem State.loadRegY_ctl1 (v : Byte) (s : State) : (s.loadReg .Y v).ctl1 = s.ctl1 := rfl
@[simp] theorem State.loadRegY_host (v : Byte) (s : State) : (s.loadReg .Y v).host = s.host := rfl

@[simp] theorem State.reg_A (s : State) : s.reg .A = s.a := rfl
@[simp] theorem State.reg_X (s : State) : s.reg .X = s.x := rfl
@[simp] theorem State.reg_Y (s : State) : s.reg .Y = s.y := rfl

end Sys2Proof.Machine
end

