-- ==== Sys2Proof/Laws/Ops.lean ====
section
/-! SUPPORT. One lemma for each shared operation that says everything it can do: the stack operations
are writes and reads of work RAM, a trap entry is three stores and a jump, an operand read keeps
every register and all storage. -/

namespace Sys2Proof.Machine

/-! ### The stack lies in work RAM -/

theorem toNat_stackAddr (sp : Byte) : (stackAddr sp).toNat = 0x100 + sp.toNat := by
  have := sp.isLt
  simp only [stackAddr, config_stackBase, zext16, BitVec.toNat_add, BitVec.toNat_setWidth]
  simp
  omega

theorem stackAddr_le (sp : Byte) : (stackAddr sp).toNat ≤ 0x1FFF := by
  have := sp.isLt
  rw [toNat_stackAddr]; omega

theorem ramOffset_stackAddr (sp : Byte) : ramOffset (stackAddr sp) = 0x100 + sp.toNat := by
  have := sp.isLt
  rw [ramOffset_eq, toNat_stackAddr]; omega

/-- A push is one write of work RAM. -/
theorem push_eq (v : Byte) (s : State) :
    push v s = { s with ram := s.ram.set (0x100 + s.sp.toNat) v, sp := s.sp - 1 } := by
  simp [push, wr_ram (stackAddr_le _), ramOffset_stackAddr]

/-- A pulled byte is a byte of work RAM. -/
theorem pulled_eq (s : State) : pulled s = s.ram.get (0x100 + (s.sp + 1).toNat) := by
  simp [pulled, peek_ram (stackAddr_le _), ramOffset_stackAddr]

/-- A pull moves the stack pointer and leaves the byte in the latch. -/
theorem afterPull_eq (s : State) :
    afterPull s = { s with sp := s.sp + 1, busLatch := s.ram.get (0x100 + (s.sp + 1).toNat) } := by
  simp [afterPull, afterRd_of_ram (stackAddr_le _), ramOffset_stackAddr]

theorem push16_eq (w : Word) (s : State) :
    push16 w s = { s with
      ram := (s.ram.set (0x100 + s.sp.toNat) (hi w)).set (0x100 + (s.sp - 1).toNat) (lo w)
      sp := s.sp - 1 - 1 } := by
  simp only [push16, push_eq]

theorem pulled16_eq (s : State) :
    pulled16 s = word (s.ram.get (0x100 + (s.sp + 1 + 1).toNat)) (s.ram.get (0x100 + (s.sp + 1).toNat)) := by
  simp only [pulled16, pulled_eq, afterPull_eq]

theorem afterPull16_eq (s : State) :
    afterPull16 s = { s with
      sp := s.sp + 1 + 1, busLatch := s.ram.get (0x100 + (s.sp + 1 + 1).toNat) } := by
  simp only [afterPull16, afterPull_eq]

/-! ### Traps -/

/-- A vector is read from program ROM through the mapper. -/
theorem readPointer_vector (k : TrapKind) (s : State) :
    readPointer k.vector (k.vector + 1) s =
      ⟨word (readPrgRom s.cart s.mapper (k.vector + 1)) (readPrgRom s.cart s.mapper k.vector),
        { s with busLatch := readPrgRom s.cart s.mapper (k.vector + 1) }⟩ := by
  cases k <;>
    simp [readPointer, TrapKind.vector, peek_prgRom, afterRd_of_prgRom]

/-- Everything a trap entry does. -/
theorem enterTrap_eq (k : TrapKind) (ret : Word) (n : Nat) (s : State) :
    enterTrap k ret n s = { s with
      ram := ((s.ram.set (0x100 + s.sp.toNat) (hi ret)).set (0x100 + (s.sp - 1).toNat) (lo ret)).set
        (0x100 + (s.sp - 1 - 1).toNat) (k.pushedP s.p)
      sp := s.sp - 1 - 1 - 1
      p := putFlag .I true s.p
      busLatch := readPrgRom s.cart s.mapper (k.vector + 1)
      pc := word (readPrgRom s.cart s.mapper (k.vector + 1)) (readPrgRom s.cart s.mapper k.vector)
      cyc := s.cyc + n } := by
  simp only [enterTrap, readPointer_vector, push16_eq, push_eq, retireTo]

/-- Everything a return from a trap does. -/
theorem returnFromTrap_eq (n : Nat) (s : State) :
    returnFromTrap n s = { s with
      p := pulledP (s.ram.get (0x100 + (s.sp + 1).toNat))
      sp := s.sp + 1 + 1 + 1
      busLatch := s.ram.get (0x100 + (s.sp + 1 + 1 + 1).toNat)
      pc := word (s.ram.get (0x100 + (s.sp + 1 + 1 + 1).toNat))
        (s.ram.get (0x100 + (s.sp + 1 + 1).toNat))
      cyc := s.cyc + n } := by
  simp only [returnFromTrap, pulled_eq, afterPull_eq, pulled16_eq, afterPull16_eq, retireTo]

/-! ### Operands -/

/-- The address a page-zero pointer byte has. -/
theorem zext16_le (z : Byte) : (zext16 z).toNat ≤ 0x1FFF := by
  have := z.isLt
  simp [zext16]; omega

theorem ramOffset_zext16 (z : Byte) : ramOffset (zext16 z) = z.toNat := by
  have := z.isLt
  rw [ramOffset_eq]; simp [zext16]; omega

/-- A page-zero pointer comes from work RAM and leaves its high byte in the latch. -/
theorem readZpPointer_eq (z : Byte) (s : State) :
    readZpPointer z s =
      ⟨word (s.ram.get (z + 1).toNat) (s.ram.get z.toNat),
        { s with busLatch := s.ram.get (z + 1).toNat }⟩ := by
  simp [readZpPointer, readPointer, peek_ram (zext16_le _), afterRd_of_ram (zext16_le _),
    ramOffset_zext16]

/-- What `resolve` leaves: the state itself, the latch filled by a page-zero pointer, or the two reads
of `JMP (ind)`. -/
theorem resolve_st (o : Operand) (s : State) :
    (∃ b, (resolve o s).st = { s with busLatch := b }) ∨
      ∃ w, o = .ind w ∧ (resolve o s).st = afterRd (word (hi w) (lo w + 1)) (afterRd w s) := by
  cases o
  case ind w => exact .inr ⟨w, rfl, rfl⟩
  case izx z =>
    exact .inl ⟨s.ram.get (z + s.x + 1).toNat, by simp only [resolve, readZpPointer_eq]⟩
  case izy z =>
    exact .inl ⟨s.ram.get (z + 1).toNat, by simp only [resolve, indexed, readZpPointer_eq]⟩
  all_goals exact .inl ⟨s.busLatch, rfl⟩

/-- An operand read is at most two reads of the bus on a changed latch: every fact that one read keeps
whatever the latch is, an operand read keeps. -/
theorem resolve_keeps {α : Type} (g : State → α) (hl : ∀ s b, g { s with busLatch := b } = g s)
    (hr : ∀ a s, g (afterRd a s) = g s) (o : Operand) (s : State) : g (resolve o s).st = g s := by
  obtain ⟨b, h⟩ | ⟨w, -, h⟩ := resolve_st o s
  · rw [h, hl]
  · rw [h, hr, hr]

theorem fetchOperand_keeps {α : Type} (g : State → α)
    (hl : ∀ s b, g { s with busLatch := b } = g s) (hr : ∀ a s, g (afterRd a s) = g s)
    (o : Operand) (s : State) : g (fetchOperand o s).st = g s := by
  cases o <;> first
    | rfl
    | exact (hr _ _).trans (resolve_keeps g hl hr _ s)

@[simp] theorem resolve_a (o : Operand) (s : State) : (resolve o s).st.a = s.a :=
  resolve_keeps (·.a) (fun _ _ => rfl) (fun _ _ => by simp) o s
@[simp] theorem fetchOperand_a (o : Operand) (s : State) : (fetchOperand o s).st.a = s.a :=
  fetchOperand_keeps (·.a) (fun _ _ => rfl) (fun _ _ => by simp) o s
@[simp] theorem resolve_x (o : Operand) (s : State) : (resolve o s).st.x = s.x :=
  resolve_keeps (·.x) (fun _ _ => rfl) (fun _ _ => by simp) o s
@[simp] theorem fetchOperand_x (o : Operand) (s : State) : (fetchOperand o s).st.x = s.x :=
  fetchOperand_keeps (·.x) (fun _ _ => rfl) (fun _ _ => by simp) o s
@[simp] theorem resolve_y (o : Operand) (s : State) : (resolve o s).st.y = s.y :=
  resolve_keeps (·.y) (fun _ _ => rfl) (fun _ _ => by simp) o s
@[simp] theorem fetchOperand_y (o : Operand) (s : State) : (fetchOperand o s).st.y = s.y :=
  fetchOperand_keeps (·.y) (fun _ _ => rfl) (fun _ _ => by simp) o s
@[simp] theorem resolve_sp (o : Operand) (s : State) : (resolve o s).st.sp = s.sp :=
  resolve_keeps (·.sp) (fun _ _ => rfl) (fun _ _ => by simp) o s
@[simp] theorem fetchOperand_sp (o : Operand) (s : State) : (fetchOperand o s).st.sp = s.sp :=
  fetchOperand_keeps (·.sp) (fun _ _ => rfl) (fun _ _ => by simp) o s
@[simp] theorem resolve_pc (o : Operand) (s : State) : (resolve o s).st.pc = s.pc :=
  resolve_keeps (·.pc) (fun _ _ => rfl) (fun _ _ => by simp) o s
@[simp] theorem fetchOperand_pc (o : Operand) (s : State) : (fetchOperand o s).st.pc = s.pc :=
  fetchOperand_keeps (·.pc) (fun _ _ => rfl) (fun _ _ => by simp) o s
@[simp] theorem resolve_p (o : Operand) (s : State) : (resolve o s).st.p = s.p :=
  resolve_keeps (·.p) (fun _ _ => rfl) (fun _ _ => by simp) o s
@[simp] theorem fetchOperand_p (o : Operand) (s : State) : (fetchOperand o s).st.p = s.p :=
  fetchOperand_keeps (·.p) (fun _ _ => rfl) (fun _ _ => by simp) o s
@[simp] theorem resolve_cyc (o : Operand) (s : State) : (resolve o s).st.cyc = s.cyc :=
  resolve_keeps (·.cyc) (fun _ _ => rfl) (fun _ _ => by simp) o s
@[simp] theorem fetchOperand_cyc (o : Operand) (s : State) : (fetchOperand o s).st.cyc = s.cyc :=
  fetchOperand_keeps (·.cyc) (fun _ _ => rfl) (fun _ _ => by simp) o s
@[simp] theorem resolve_nmiPending (o : Operand) (s : State) : (resolve o s).st.nmiPending = s.nmiPending :=
  resolve_keeps (·.nmiPending) (fun _ _ => rfl) (fun _ _ => by simp) o s
@[simp] theorem fetchOperand_nmiPending (o : Operand) (s : State) : (fetchOperand o s).st.nmiPending = s.nmiPending :=
  fetchOperand_keeps (·.nmiPending) (fun _ _ => rfl) (fun _ _ => by simp) o s
@[simp] theorem resolve_stall (o : Operand) (s : State) : (resolve o s).st.stall = s.stall :=
  resolve_keeps (·.stall) (fun _ _ => rfl) (fun _ _ => by simp) o s
@[simp] theorem fetchOperand_stall (o : Operand) (s : State) : (fetchOperand o s).st.stall = s.stall :=
  fetchOperand_keeps (·.stall) (fun _ _ => rfl) (fun _ _ => by simp) o s
@[simp] theorem resolve_cart (o : Operand) (s : State) : (resolve o s).st.cart = s.cart :=
  resolve_keeps (·.cart) (fun _ _ => rfl) (fun _ _ => by simp) o s
@[simp] theorem fetchOperand_cart (o : Operand) (s : State) : (fetchOperand o s).st.cart = s.cart :=
  fetchOperand_keeps (·.cart) (fun _ _ => rfl) (fun _ _ => by simp) o s
@[simp] theorem resolve_mapper (o : Operand) (s : State) : (resolve o s).st.mapper = s.mapper :=
  resolve_keeps (·.mapper) (fun _ _ => rfl) (fun _ _ => by simp) o s
@[simp] theorem fetchOperand_mapper (o : Operand) (s : State) : (fetchOperand o s).st.mapper = s.mapper :=
  fetchOperand_keeps (·.mapper) (fun _ _ => rfl) (fun _ _ => by simp) o s
@[simp] theorem resolve_ram (o : Operand) (s : State) : (resolve o s).st.ram = s.ram :=
  resolve_keeps (·.ram) (fun _ _ => rfl) (fun _ _ => by simp) o s
@[simp] theorem fetchOperand_ram (o : Operand) (s : State) : (fetchOperand o s).st.ram = s.ram :=
  fetchOperand_keeps (·.ram) (fun _ _ => rfl) (fun _ _ => by simp) o s
@[simp] theorem resolve_vram (o : Operand) (s : State) : (resolve o s).st.vram = s.vram :=
  resolve_keeps (·.vram) (fun _ _ => rfl) (fun _ _ => by simp) o s
@[simp] theorem fetchOperand_vram (o : Operand) (s : State) : (fetchOperand o s).st.vram = s.vram :=
  fetchOperand_keeps (·.vram) (fun _ _ => rfl) (fun _ _ => by simp) o s
@[simp] theorem resolve_ctlStrobe (o : Operand) (s : State) : (resolve o s).st.ctlStrobe = s.ctlStrobe :=
  resolve_keeps (·.ctlStrobe) (fun _ _ => rfl) (fun _ _ => by simp) o s
@[simp] theorem fetchOperand_ctlStrobe (o : Operand) (s : State) : (fetchOperand o s).st.ctlStrobe = s.ctlStrobe :=
  fetchOperand_keeps (·.ctlStrobe) (fun _ _ => rfl) (fun _ _ => by simp) o s
@[simp] theorem resolve_host (o : Operand) (s : State) : (resolve o s).st.host = s.host :=
  resolve_keeps (·.host) (fun _ _ => rfl) (fun _ _ => by simp) o s
@[simp] theorem fetchOperand_host (o : Operand) (s : State) : (fetchOperand o s).st.host = s.host :=
  fetchOperand_keeps (·.host) (fun _ _ => rfl) (fun _ _ => by simp) o s

/-! ### Plain storage under reads -/

/-- A read leaves every byte of plain storage as it was. -/
theorem peek_afterRd_of_placeable (a : Word) {b : Word} {s : State} (h : placeable b s = true) :
    peek b (afterRd a s) = peek b s := by
  refine peek_afterRd_placeable a b s ?_ ?_ ?_ ?_ ?_ ?_ <;>
    (try intro n) <;> (try intro h') <;> simp_all [placeable]

end Sys2Proof.Machine
end

