-- ==== Sys2Proof/Laws/Devices.lean ====
section
/-! SUPPORT. The sample cadence in the spec's own quantities, and what the devices can change in a
catch-up: a tick changes the video unit, the pending NMI and the host's side; a clock the audio unit,
what one bus read changes, the owed stall and the host's side; neither touches a CPU register, the
cartridge, the mapper, RAM or video RAM. -/

namespace Sys2Proof.Machine

/-! ### The sample cadence (R609) -/

/-- `sample_acc` of R609: the stored accumulator counts in units of 1 / numerator of the rate. -/
def Apu.sampleAccQ (u : Apu) : Rat := (u.sampleAcc : Rat) / config.sampleRateNum

/-- `CPU_FREQ_HZ / SAMPLE_RATE_HZ` (R609). -/
def cyclesPerSample : Rat := 1789773 / ((config.sampleRateNum : Rat) / config.sampleRateDen)

theorem sampleRateNum_pos : (0 : Rat) < config.sampleRateNum := by
  exact_mod_cast Nat.succ_pos config.sampleRate.1

theorem sampleRateDen_pos : (0 : Rat) < config.sampleRateDen := by
  exact_mod_cast Nat.succ_pos config.sampleRate.2

theorem sampleDue_iff_le (u : Apu) : u.sampleDue = true ↔
    1789773 * config.sampleRateDen ≤ u.sampleAcc + config.sampleRateNum :=
  decide_eq_true_iff

/-- When a sample is due is when the spec says (R609). -/
theorem sampleDue_iff (u : Apu) :
    u.sampleDue = true ↔ cyclesPerSample ≤ u.sampleAccQ + 1 := by
  have hn := sampleRateNum_pos
  have hd := sampleRateDen_pos
  have e1 : cyclesPerSample = 1789773 * config.sampleRateDen / config.sampleRateNum := by
    unfold cyclesPerSample; field_simp
  have e2 : u.sampleAccQ + 1 = (u.sampleAcc + config.sampleRateNum) / config.sampleRateNum := by
    unfold Apu.sampleAccQ; field_simp
  rw [sampleDue_iff_le, e1, e2, div_le_div_iff_of_pos_right hn]
  exact_mod_cast Iff.rfl

/-- The accumulator after a clock, in the spec's quantities (R609). -/
theorem nextSampleAcc_eq (u : Apu) : (u.nextSampleAcc : Rat) / config.sampleRateNum =
    if u.sampleDue then u.sampleAccQ + 1 - cyclesPerSample else u.sampleAccQ + 1 := by
  have hn := sampleRateNum_pos
  have hd := sampleRateDen_pos
  unfold Apu.nextSampleAcc Apu.sampleAccQ cyclesPerSample
  split
  · next h =>
    rw [config_cpuFreqHz, Nat.cast_sub ((sampleDue_iff_le u).1 h)]
    push_cast
    field_simp
  · push_cast
    field_simp

/-- Of the audio unit the cadence sees the accumulator only. -/
theorem sampleDue_congr {u w : Apu} (h : u.sampleAcc = w.sampleAcc) : u.sampleDue = w.sampleDue := by
  unfold Apu.sampleDue
  rw [h]

theorem nextSampleAcc_congr {u w : Apu} (h : u.sampleAcc = w.sampleAcc) :
    u.nextSampleAcc = w.nextSampleAcc := by
  unfold Apu.nextSampleAcc
  rw [sampleDue_congr h, h]

/-- The sample step hands the levels of its moment to the sink, and changes nothing but the
accumulator else (R609). -/
theorem sampleStep_eq (s : State) : sampleStep s = { s with
    apu := { s.apu with sampleAcc := s.apu.nextSampleAcc }
    host := { s.host with
      samples := if s.apu.sampleDue then s.apu.levels :: s.host.samples else s.host.samples } } := rfl

/-- The part of `clock()` before the reader leaves the accumulator. -/
@[simp] theorem clockFront_sampleAcc (u : Apu) : u.clockFront.sampleAcc = u.sampleAcc := by
  simp only [Apu.clockFront, Apu.frameStep, Apu.quarter, Apu.half]
  (repeat' split) <;> rfl

/-! ### What changes -/

theorem bgPhase_cases (s : State) : ∃ p, bgPhase s = { s with ppu := p } := by
  simp only [bgPhase]
  split
  · exact ⟨_, rfl⟩
  · exact ⟨s.ppu, rfl⟩

theorem spritePhase_cases (s : State) : ∃ p, spritePhase s = { s with ppu := p } := by
  unfold spritePhase
  split
  · exact ⟨_, rfl⟩
  · exact ⟨s.ppu, rfl⟩

/-- What the rendering of a dot can change: the video unit. -/
theorem renderPhase_cases (s : State) : ∃ p, renderPhase s = { s with ppu := p } := by
  unfold renderPhase
  split
  · obtain ⟨p, hp⟩ := bgPhase_cases s
    obtain ⟨q, hq⟩ := spritePhase_cases { s with ppu := p.incYPhase }
    simp only [hp, hq]
    exact ⟨_, rfl⟩
  · exact ⟨s.ppu, rfl⟩

/-- What a tick can change. -/
theorem tick_cases (s : State) :
    ∃ n h p, tick s = { s with nmiPending := n, host := h, ppu := p } := by
  obtain ⟨p, h⟩ := renderPhase_cases { s with ppu := s.ppu.clearFlags.emitStep }
  simp only [tick, h, vblankPhase, startVblank]
  split <;> exact ⟨_, _, _, rfl⟩

/-- What the delta channel's reader can change. -/
theorem dmcReader_cases (s : State) :
    ∃ l st p u c0 c1, dmcReader s =
      { s with busLatch := l, stall := st, ppu := p, apu := u, ctl0 := c0, ctl1 := c1 } := by
  unfold dmcReader
  split
  · obtain ⟨v, w, vb, rb, io, fi, c0, c1, h⟩ :=
      afterRd_cases s.apu.dmc.curAddr { s with stall := s.stall + config.dmcStallCycles }
    simp only [h]
    exact ⟨_, _, _, _, _, _, rfl⟩
  · exact ⟨s.busLatch, s.stall, s.ppu, s.apu, s.ctl0, s.ctl1, rfl⟩

/-- What a clock can change. -/
theorem clock_cases (s : State) :
    ∃ l st p u c0 c1 h, clock s =
      { s with
        busLatch := l, stall := st, ppu := p, apu := u, ctl0 := c0, ctl1 := c1, host := h } := by
  obtain ⟨l, st, p, u, c0, c1, h⟩ := dmcReader_cases { s with apu := s.apu.clockFront }
  simp only [clock, h, sampleStep]
  exact ⟨_, _, _, _, _, _, _, rfl⟩

/-- What one pass of the catch-up can change. -/
theorem devicePass_cases (s : State) :
    ∃ l st n p u c0 c1 h, devicePass s =
      { s with
        busLatch := l, stall := st, nmiPending := n, ppu := p, apu := u, ctl0 := c0, ctl1 := c1
        host := h } := by
  obtain ⟨n1, h1, p1, e1⟩ := tick_cases s
  obtain ⟨n2, h2, p2, e2⟩ := tick_cases (tick s)
  obtain ⟨n3, h3, p3, e3⟩ := tick_cases (tick (tick s))
  obtain ⟨l, st, p, u, c0, c1, h, e⟩ := clock_cases (tick (tick (tick s)))
  exact ⟨l, st, n3, p, u, c0, c1, h, by rw [devicePass, e, e3, e2, e1]⟩

@[simp] theorem devicePass_a (s : State) : (devicePass s).a = s.a := by
  obtain ⟨_, _, _, _, _, _, _, _, h⟩ := devicePass_cases s; rw [h]

@[simp] theorem runDevices_a (n : Nat) (s : State) : (runDevices n s).a = s.a := by
  induction n generalizing s with
  | zero => rfl
  | succ n ih => rw [runDevices, ih, devicePass_a]

@[simp] theorem devicePass_x (s : State) : (devicePass s).x = s.x := by
  obtain ⟨_, _, _, _, _, _, _, _, h⟩ := devicePass_cases s; rw [h]

@[simp] theorem runDevices_x (n : Nat) (s : State) : (runDevices n s).x = s.x := by
  induction n generalizing s with
  | zero => rfl
  | succ n ih => rw [runDevices, ih, devicePass_x]

@[simp] theorem devicePass_y (s : State) : (devicePass s).y = s.y := by
  obtain ⟨_, _, _, _, _, _, _, _, h⟩ := devicePass_cases s; rw [h]

@[simp] theorem runDevices_y (n : Nat) (s : State) : (runDevices n s).y = s.y := by
  induction n generalizing s with
  | zero => rfl
  | succ n ih => rw [runDevices, ih, devicePass_y]

@[simp] theorem devicePass_sp (s : State) : (devicePass s).sp = s.sp := by
  obtain ⟨_, _, _, _, _, _, _, _, h⟩ := devicePass_cases s; rw [h]

@[simp] theorem runDevices_sp (n : Nat) (s : State) : (runDevices n s).sp = s.sp := by
  induction n generalizing s with
  | zero => rfl
  | succ n ih => rw [runDevices, ih, devicePass_sp]

@[simp] theorem devicePass_pc (s : State) : (devicePass s).pc = s.pc := by
  obtain ⟨_, _, _, _, _, _, _, _, h⟩ := devicePass_cases s; rw [h]

@[simp] theorem runDevices_pc (n : Nat) (s : State) : (runDevices n s).pc = s.pc := by
  induction n generalizing s with
  | zero => rfl
  | succ n ih => rw [runDevices, ih, devicePass_pc]

@[simp] theorem devicePass_p (s : State) : (devicePass s).p = s.p := by
  obtain ⟨_, _, _, _, _, _, _, _, h⟩ := devicePass_cases s; rw [h]

@[simp] theorem runDevices_p (n : Nat) (s : State) : (runDevices n s).p = s.p := by
  induction n generalizing s with
  | zero => rfl
  | succ n ih => rw [runDevices, ih, devicePass_p]

@[simp] theorem devicePass_cyc (s : State) : (devicePass s).cyc = s.cyc := by
  obtain ⟨_, _, _, _, _, _, _, _, h⟩ := devicePass_cases s; rw [h]

@[simp] theorem runDevices_cyc (n : Nat) (s : State) : (runDevices n s).cyc = s.cyc := by
  induction n generalizing s with
  | zero => rfl
  | succ n ih => rw [runDevices, ih, devicePass_cyc]

@[simp] theorem devicePass_cart (s : State) : (devicePass s).cart = s.cart := by
  obtain ⟨_, _, _, _, _, _, _, _, h⟩ := devicePass_cases s; rw [h]

@[simp] theorem runDevices_cart (n : Nat) (s : State) : (runDevices n s).cart = s.cart := by
  induction n generalizing s with
  | zero => rfl
  | succ n ih => rw [runDevices, ih, devicePass_cart]

@[simp] theorem devicePass_mapper (s : State) : (devicePass s).mapper = s.mapper := by
  obtain ⟨_, _, _, _, _, _, _, _, h⟩ := devicePass_cases s; rw [h]

@[simp] theorem runDevices_mapper (n : Nat) (s : State) : (runDevices n s).mapper = s.mapper := by
  induction n generalizing s with
  | zero => rfl
  | succ n ih => rw [runDevices, ih, devicePass_mapper]

@[simp] theorem devicePass_ram (s : State) : (devicePass s).ram = s.ram := by
  obtain ⟨_, _, _, _, _, _, _, _, h⟩ := devicePass_cases s; rw [h]

@[simp] theorem runDevices_ram (n : Nat) (s : State) : (runDevices n s).ram = s.ram := by
  induction n generalizing s with
  | zero => rfl
  | succ n ih => rw [runDevices, ih, devicePass_ram]

@[simp] theorem devicePass_vram (s : State) : (devicePass s).vram = s.vram := by
  obtain ⟨_, _, _, _, _, _, _, _, h⟩ := devicePass_cases s; rw [h]

@[simp] theorem runDevices_vram (n : Nat) (s : State) : (runDevices n s).vram = s.vram := by
  induction n generalizing s with
  | zero => rfl
  | succ n ih => rw [runDevices, ih, devicePass_vram]

@[simp] theorem devicePass_ctlStrobe (s : State) : (devicePass s).ctlStrobe = s.ctlStrobe := by
  obtain ⟨_, _, _, _, _, _, _, _, h⟩ := devicePass_cases s; rw [h]

@[simp] theorem runDevices_ctlStrobe (n : Nat) (s : State) : (runDevices n s).ctlStrobe = s.ctlStrobe := by
  induction n generalizing s with
  | zero => rfl
  | succ n ih => rw [runDevices, ih, devicePass_ctlStrobe]

/-- A property that the passes keep, the catch-up keeps. -/
theorem runDevices_keeps {P : State → Prop} (h : ∀ s, P s → P (devicePass s)) (n : Nat) :
    ∀ s, P s → P (runDevices n s) := by
  induction n with
  | zero => exact fun _ hs => hs
  | succ n ih => exact fun s hs => ih _ (h s hs)

/-- A property that the entry, every instruction and every pass keep, a step keeps. -/
theorem step_keeps {P : State → Prop} (hcpu : ∀ s t, P s → cpuAdvance s = .next t → P t)
    (hstall : ∀ s, P s → P { s with cyc := s.cyc + s.stall, stall := 0 })
    (hpass : ∀ s, P s → P (devicePass s)) {s t : State} (hs : P s) (h : step s = .next t) : P t := by
  unfold step iterate at h
  cases hc : cpuAdvance s with
  | next u =>
    rw [hc] at h
    cases h
    exact runDevices_keeps hpass _ _ (hstall u (hcpu s u hs hc))
  | fault r => rw [hc] at h; cases h
  | refused r => rw [hc] at h; cases h

end Sys2Proof.Machine
end

