-- ==== Sys2Proof/Laws/Flags.lean ====
section
/-! SUPPORT. Laws of the status byte: reading one flag after writing another, and the two bits that are
not storage. -/

namespace Sys2Proof.Machine

/-- Reading a flag after writing one. -/
@[simp] theorem getFlag_putFlag (f g : Flag) (b : Bool) (p : Byte) :
    getFlag f (putFlag g b p) = if f = g then b else getFlag f p := by
  cases f <;> cases g <;> cases b <;>
    simp [getFlag, putFlag, Flag.mask, Flag.bit]

/-- `setZN` sets Z and N and no other flag. -/
@[simp] theorem getFlag_setZN (f : Flag) (v p : Byte) :
    getFlag f (setZN v p) = if f = .Z then v == 0 else if f = .N then v.msb else getFlag f p := by
  cases f <;> simp [setZN]

/-- A pulled status byte takes six bits from the byte; U is 1 and B is 0 (R28). -/
@[simp] theorem getFlag_pulledP (f : Flag) (m : Byte) :
    getFlag f (pulledP m) = if f = .U then true else if f = .B then false else getFlag f m := by
  cases f <;> simp [getFlag, pulledP, Flag.bit]

/-- The copy pushed by `PHP` and `BRK` has B and U set (R28). -/
@[simp] theorem getFlag_pushedPHigh (f : Flag) (p : Byte) :
    getFlag f (pushedPHigh p) = if f = .U then true else if f = .B then true else getFlag f p := by
  cases f <;> simp [getFlag, pushedPHigh, Flag.bit]

/-- The copy pushed by `IRQ` and `NMI` has U set and B clear (R28). -/
@[simp] theorem getFlag_pushedPLow (f : Flag) (p : Byte) :
    getFlag f (pushedPLow p) = if f = .U then true else if f = .B then false else getFlag f p := by
  cases f <;> simp [getFlag, pushedPLow, Flag.bit]

/-- A status byte is its eight flags. -/
theorem flags_ext {p q : Byte} (h : ∀ f, getFlag f p = getFlag f q) : p = q := by
  refine BitVec.eq_of_getLsbD_eq fun i hi => ?_
  have : i = 0 ∨ i = 1 ∨ i = 2 ∨ i = 3 ∨ i = 4 ∨ i = 5 ∨ i = 6 ∨ i = 7 := by omega
  rcases this with rfl | rfl | rfl | rfl | rfl | rfl | rfl | rfl
  exacts [h .C, h .Z, h .I, h .D, h .B, h .U, h .V, h .N]

end Sys2Proof.Machine
end

