-- ==== Sys2Proof/Laws/Stores.lean ====
section
/-! SUPPORT. Every operation that writes a storage keeps all storages in canonical form and within
their sizes (`memoriesOk`): the writes of both buses, the object-memory copy, the reads, the ticks of
the devices, and the placing of bytes for a fetch. -/

namespace Sys2Proof.Machine

theorem storeOk_nil (size : Nat) : storeOk size [] = true := rfl

/-- A write below the size keeps a storage canonical and in size. -/
theorem storeOk_set {size a : Nat} {m : Memory} (h : storeOk size m = true) (ha : a < size)
    (v : Byte) : storeOk size (m.set a v) = true := by
  simp only [storeOk, Bool.and_eq_true] at h ⊢
  exact ⟨Memory.wf_set h.1 a v, Memory.within_set ha h.2⟩

/-- The parts of `memoriesOk`. -/
theorem memoriesOk_iff (s : State) : memoriesOk s = true ↔
    storeOk 2048 s.ram = true ∧ storeOk (vramSize s.cart) s.vram = true ∧
    storeOk 256 s.ppu.oam = true ∧ storeOk s.cart.prgSize s.cart.prgRom = true ∧
    storeOk s.cart.chrSize s.cart.chr = true ∧
    (∀ m, s.cart.prgRam = some m → storeOk 8192 m = true) := by
  unfold memoriesOk
  cases s.cart.prgRam <;> simp [and_assoc]

/-- `memoriesOk` sees six storages and the cartridge's header fields only. -/
theorem memoriesOk_congr {s t : State} (h1 : t.ram = s.ram) (h2 : t.vram = s.vram)
    (h3 : t.ppu.oam = s.ppu.oam) (h4 : t.cart = s.cart) : memoriesOk t = memoriesOk s := by
  simp only [memoriesOk, h1, h2, h3, h4]

/-! ### Offsets lie within their storages -/

theorem prgSize_pos {c : Cartridge} (h : 0 < c.prgBanks) : 0 < c.prgSize := by
  simp only [Cartridge.prgSize]; omega

theorem chrSize_pos (c : Cartridge) : 0 < c.chrSize := by simp only [Cartridge.chrSize]; omega

/-- With a PRG bank, the offset of every CPU address lies within program ROM (R631). -/
theorem prgOffset_lt {c : Cartridge} (h : 0 < c.prgBanks) (m : Mapper) (a : Word) :
    prgOffset c m a < c.prgSize := by
  have hp := prgSize_pos h
  have ho := (bits a 0 14).isLt
  unfold prgOffset
  cases m with
  | swap16 b =>
    simp only
    split
    · simp only [Cartridge.prgSize]; omega
    · exact Nat.mod_lt _ hp
  | _ => exact Nat.mod_lt _ hp

/-- The offset of every pattern-table address lies within graphics memory (R636). -/
theorem chrOffset_lt (c : Cartridge) (m : Mapper) (a : VAddr) : chrOffset c m a < c.chrSize := by
  unfold chrOffset
  cases m <;> exact Nat.mod_lt _ (chrSize_pos c)

/-- A mirroring mode other than four-screen has two physical tables (R638). -/
theorem physTable_lt (mir : Mirroring) (n : BitVec 2) :
    physTable mir n < (if mir = .F then 4 else 2) := by
  have := n.isLt
  cases mir <;> simp only [physTable, reduceIte, reduceCtorEq] <;> omega

theorem currentMirroring_F {c : Cartridge} {m : Mapper} (hm : mapperOk c m = true)
    (h : currentMirroring c m = .F) : c.mirroring = .F := by
  unfold currentMirroring at h
  split at h
  · assumption
  · cases m with
    | shiftRegister r => simp_all [mapperOk]
    | swap32 b one mir => cases one <;> simp_all [mapperOk, oneScreenMirroring]
    | _ => exact h

/-- The offset of every nametable address lies within video RAM (R103, R638). -/
theorem nametableOffset_lt {s : State} (hm : mapperOk s.cart s.mapper = true) (a : VAddr) :
    nametableOffset s a < vramSize s.cart := by
  unfold nametableOffset mapNametableAddress
  generalize (0x2000 ||| (a &&& 0x0FFF) : VAddr) = b
  have h1 := physTable_lt (currentMirroring s.cart s.mapper) (bits b 10 2)
  have h2 := (bits b 0 10).isLt
  have h3 : currentMirroring s.cart s.mapper = .F → s.cart.mirroring = .F := currentMirroring_F hm
  unfold vramSize
  by_cases h : currentMirroring s.cart s.mapper = .F
  · rw [if_pos h] at h1
    rw [if_pos (h3 h)]
    omega
  · rw [if_neg h] at h1
    split <;> omega

/-! ### The mapper's registers -/

/-- A reset of the mapper gives registers in their ranges (R61, R658, R670). -/
theorem mapperOk_reset (c : Cartridge) (m : Mapper) : mapperOk c (m.reset c) = true := by
  cases m <;> cases h : c.mirroring <;> simp [mapperOk, Mapper.reset, Mmc1.reset, h]

/-- The current mirroring mode starts as the cartridge's, in every variant (R61). -/
theorem construct_mirroring {c : Cartridge} {id : Nat} {m : Mapper}
    (h : Mapper.construct c id = some m) : currentMirroring c m = c.mirroring := by
  unfold Mapper.construct at h
  split at h <;> cases h <;> simp [currentMirroring, Mmc1.reset] <;> exact Eq.symm

/-- Of two resets the second changes nothing (R658, R670). -/
@[simp] theorem mapper_reset_reset (c : Cartridge) (m : Mapper) :
    (m.reset c).reset c = m.reset c := by
  cases m <;> rfl

/-- In the machine's states the mirroring mode of variant 7 is that of `one_screen` (R673). -/
theorem swap32_mirroring {c : Cartridge} {b : Byte} {one : Bool} {mir : Mirroring}
    (hm : mapperOk c (.swap32 b one mir) = true) :
    currentMirroring c (.swap32 b one mir) =
      if c.mirroring = .F then .F else if one then .S1 else .S0 := by
  simp only [mapperOk, Bool.and_eq_true, beq_iff_eq] at hm
  rw [currentMirroring, hm.2]
  rfl

/-- Every register write keeps the registers in their ranges (R651, R654, R671, R673). -/
theorem mapperOk_writePrgRom {c : Cartridge} {m : Mapper} (hm : mapperOk c m = true) (a : Word)
    (v : Byte) :
    mapperOk c (m.writePrgRom a v) = true := by
  cases m with
  | shiftRegister r =>
    simp only [mapperOk, Bool.and_eq_true, decide_eq_true_eq] at hm
    simp only [Mapper.writePrgRom, mapperOk, Bool.and_eq_true, decide_eq_true_eq, Mmc1.write]
    split
    · exact ⟨Nat.zero_le 4, hm.2⟩
    · split
      · unfold Mmc1.load
        split <;> refine ⟨Nat.zero_le 4, ?_⟩
        · unfold mirrorOf
          split <;> rfl
        all_goals exact hm.2
      · exact ⟨by simp only; omega, hm.2⟩
  | swap32 b one mir =>
    have : v.toNat &&& 7 < 8 := Nat.lt_of_le_of_lt Nat.and_le_right (by decide)
    simp [Mapper.writePrgRom, mapperOk, this]
  | _ => rfl

/-! ### The operations -/

/-- `writePrgRam` keeps the memories (R634). -/
theorem writePrgRam_keeps {s : State} (h : memoriesOk s = true) (a : Word) (v : Byte) :
    memoriesOk { s with cart := writePrgRam s.cart s.mapper a v } = true := by
  unfold writePrgRam
  split
  · next ram hr =>
    have hram : s.cart.prgRam = some ram := by
      unfold prgRamAnswering at hr
      split at hr
      · exact hr
      · simp at hr
    rw [memoriesOk_iff] at h ⊢
    obtain ⟨h1, h2, h3, h4, h5, h6⟩ := h
    refine ⟨h1, h2, h3, h4, h5, fun m hm => ?_⟩
    cases hm
    exact storeOk_set (h6 _ hram) (bits a 0 13).isLt v
  · exact h

/-- `PpuWr` keeps the memories (R106). -/
theorem ppuWr_keeps {s : State} (h : memoriesOk s = true) (hm : mapperOk s.cart s.mapper = true)
    (a : VAddr) (v : Byte) : memoriesOk (ppuWr a v s) = true := by
  unfold ppuWr
  have h' := (memoriesOk_iff s).1 h
  obtain ⟨h1, h2, h3, h4, h5, h6⟩ := h'
  split
  · unfold writeChrRom
    split
    · exact (memoriesOk_iff _).2 ⟨h1, h2, h3, h4, storeOk_set h5 (chrOffset_lt _ _ _) v, h6⟩
    · exact h
  · split
    · exact (memoriesOk_iff _).2 ⟨h1, storeOk_set h2 (nametableOffset_lt hm a) v, h3, h4, h5, h6⟩
    · exact (memoriesOk_iff _).2 ⟨h1, h2, h3, h4, h5, h6⟩

/-- One byte into object memory keeps the memories (R462). -/
theorem oamPut_keeps {s : State} (h : memoriesOk s = true) (v : Byte) :
    memoriesOk { s with ppu := s.ppu.oamPut v } = true := by
  obtain ⟨h1, h2, h3, h4, h5, h6⟩ := (memoriesOk_iff s).1 h
  exact (memoriesOk_iff _).2 ⟨h1, h2, storeOk_set h3 s.ppu.oamAddr.isLt v, h4, h5, h6⟩

/-- A read keeps the memories (R113). -/
theorem afterRd_keeps {s : State} (h : memoriesOk s = true) (a : Word) :
    memoriesOk (afterRd a s) = true := by
  rw [memoriesOk_congr (afterRd_ram a s) (afterRd_vram a s) (afterRd_ppu_oam a s)
    (afterRd_cart a s)]
  exact h

theorem oamCopy_keeps (page : Byte) (n : Nat) {s : State} (h : memoriesOk s = true) :
    memoriesOk (oamCopy page n s) = true := by
  induction n generalizing s with
  | zero => exact h
  | succ n ih => exact ih (oamPut_keeps (afterRd_keeps h _) _)

/-- A video register write keeps the memories (R456). -/
theorem ppuRegWrite_keeps {s : State} (h : memoriesOk s = true)
    (hm : mapperOk s.cart s.mapper = true) (n : BitVec 3) (v : Byte) :
    memoriesOk (ppuRegWrite n v s) = true := by
  have h0 : memoriesOk { s with ppu := { s.ppu with ioLatch := v } } = true := h
  unfold ppuRegWrite
  split
  · exact h
  · exact h
  · exact h
  · exact oamPut_keeps h0 v
  · simp only [Ppu.writeScroll]
    split <;> exact h
  · simp only [Ppu.writeAddr]
    split <;> exact h
  · exact (memoriesOk_congr (by rfl) (by rfl) (by rfl) (by rfl)).trans
      (ppuWr_keeps h0 hm s.ppu.vaddr v)
  · exact h0

/-- Every `Wr` keeps the memories (R85). -/
theorem wr_keeps {s : State} (h : memoriesOk s = true) (hm : mapperOk s.cart s.mapper = true)
    (a : Word) (v : Byte) : memoriesOk (wr a v s) = true := by
  unfold wr
  split
  · next o ho =>
    obtain ⟨h1, h2⟩ := (memoriesOk_iff s).1 h
    have hlt : o < 2048 := by
      unfold writeDest at ho
      split at ho
      · cases ho; exact ramOffset_lt a
      · repeat' split at ho
        all_goals cases ho
    exact (memoriesOk_iff _).2 ⟨storeOk_set h1 hlt v, h2⟩
  · exact ppuRegWrite_keeps h hm _ v
  · exact (memoriesOk_congr (by rfl) (by rfl) (by rfl) (by rfl)).trans (oamCopy_keeps v 256 h)
  · exact h
  · exact h
  · exact h
  · exact writePrgRam_keeps h a v
  · exact h

/-- Placing a byte for a fetch keeps the memories. -/
theorem placeByte_keeps {s : State} (h : memoriesOk s = true) (hc : 0 < s.cart.prgBanks) (a : Word)
    (b : Byte) : memoriesOk (placeByte a b s) = true := by
  obtain ⟨h1, h2, h3, h4, h5, h6⟩ := (memoriesOk_iff s).1 h
  unfold placeByte
  split
  · next o ho =>
    have hlt : o < 2048 := by
      unfold readDest at ho
      split at ho
      · cases ho; exact ramOffset_lt a
      · repeat' split at ho
        all_goals cases ho
    exact (memoriesOk_iff _).2 ⟨storeOk_set h1 hlt b, h2, h3, h4, h5, h6⟩
  · exact writePrgRam_keeps h a b
  · exact (memoriesOk_iff _).2 ⟨h1, h2, h3, storeOk_set h4 (prgOffset_lt hc _ _) b, h5, h6⟩
  · exact h

/-- Laying out an image gives a storage in canonical form and in size (R624). -/
theorem storeOk_ofBytes {size : Nat} {bs : List Byte} (h : bs.length ≤ size) :
    storeOk size (Memory.ofBytes bs) = true := by
  simp only [storeOk, Bool.and_eq_true]
  refine ⟨Memory.wf_ofBytes bs, ?_⟩
  have key : ∀ (l : List Byte) (a : Nat), a + l.length ≤ size →
      (Memory.ofBytesAt a l).within size = true := by
    intro l
    induction l with
    | nil => intro a _; rfl
    | cons b l ih =>
      intro a ha
      have hl : (b :: l).length = l.length + 1 := rfl
      exact Memory.within_cons (by omega) (ih (a + 1) (by omega))
  exact key bs 0 (by omega)

end Sys2Proof.Machine
end

