-- ==== Sys2Proof/Tests/Slice0.lean ====
section
/-! SUPPORT. Tests of the model, each expected value being the spec's own (the opcode matrix of
R156, the vectors of spec/95_test_vectors.md, the examples of the rules named beside each), and the
witnesses: for every statement with hypotheses, a concrete state and operands that meet them. -/

namespace Sys2Proof.Tests
open Sys2Proof Sys2Proof.Machine

/-! ### Decoding: every opcode with its bytes written out -/

/-- These bytes, and no more, decode to this instruction. -/
def dec (bs : List Byte) (i : Instr) : Bool :=
  match decode bs with
  | .ok (j, rest) => j == i && rest == []
  | .error _ => false

/-- Opcodes 00 to 0F (R156). -/
theorem test_decode_row0 :
    dec [0x00] .brk ∧ dec [0x01, 0x8E] (.oraIzx 0x8E) ∧
    dec [0x02] .unaImp02 ∧ dec [0x03, 0x8E] (.sloIzx 0x8E) ∧
    dec [0x04, 0x8E] (.unopZp04 0x8E) ∧ dec [0x05, 0x8E] (.oraZp 0x8E) ∧
    dec [0x06, 0x8E] (.aslZp 0x8E) ∧ dec [0x07, 0x8E] (.sloZp 0x8E) ∧
    dec [0x08] .php ∧ dec [0x09, 0x8E] (.oraImm 0x8E) ∧
    dec [0x0A] .aslAcc ∧ dec [0x0B, 0x8E] (.unaImm0B 0x8E) ∧
    dec [0x0C, 0x34, 0x92] (.unopAbs0C 0x9234) ∧ dec [0x0D, 0x34, 0x92] (.oraAbs 0x9234) ∧
    dec [0x0E, 0x34, 0x92] (.aslAbs 0x9234) ∧ dec [0x0F, 0x34, 0x92] (.sloAbs 0x9234)
    := by decide

/-- Opcodes 10 to 1F (R156). -/
theorem test_decode_row1 :
    dec [0x10, 0x8E] (.bpl 0x8E) ∧ dec [0x11, 0x8E] (.oraIzy 0x8E) ∧
    dec [0x12] .unaImp12 ∧ dec [0x13, 0x8E] (.sloIzy 0x8E) ∧
    dec [0x14, 0x8E] (.unopZpx14 0x8E) ∧ dec [0x15, 0x8E] (.oraZpx 0x8E) ∧
    dec [0x16, 0x8E] (.aslZpx 0x8E) ∧ dec [0x17, 0x8E] (.sloZpx 0x8E) ∧
    dec [0x18] .clc ∧ dec [0x19, 0x34, 0x92] (.oraAby 0x9234) ∧
    dec [0x1A] .unopImp1A ∧ dec [0x1B, 0x34, 0x92] (.sloAby 0x9234) ∧
    dec [0x1C, 0x34, 0x92] (.unopAbx1C 0x9234) ∧ dec [0x1D, 0x34, 0x92] (.oraAbx 0x9234) ∧
    dec [0x1E, 0x34, 0x92] (.aslAbx 0x9234) ∧ dec [0x1F, 0x34, 0x92] (.sloAbx 0x9234)
    := by decide

/-- Opcodes 20 to 2F (R156). -/
theorem test_decode_row2 :
    dec [0x20, 0x34, 0x92] (.jsrAbs 0x9234) ∧ dec [0x21, 0x8E] (.andIzx 0x8E) ∧
    dec [0x22] .unaImp22 ∧ dec [0x23, 0x8E] (.rlaIzx 0x8E) ∧
    dec [0x24, 0x8E] (.bitZp 0x8E) ∧ dec [0x25, 0x8E] (.andZp 0x8E) ∧
    dec [0x26, 0x8E] (.rolZp 0x8E) ∧ dec [0x27, 0x8E] (.rlaZp 0x8E) ∧
    dec [0x28] .plp ∧ dec [0x29, 0x8E] (.andImm 0x8E) ∧
    dec [0x2A] .rolAcc ∧ dec [0x2B, 0x8E] (.unaImm2B 0x8E) ∧
    dec [0x2C, 0x34, 0x92] (.bitAbs 0x9234) ∧ dec [0x2D, 0x34, 0x92] (.andAbs 0x9234) ∧
    dec [0x2E, 0x34, 0x92] (.rolAbs 0x9234) ∧ dec [0x2F, 0x34, 0x92] (.rlaAbs 0x9234)
    := by decide

/-- Opcodes 30 to 3F (R156). -/
theorem test_decode_row3 :
    dec [0x30, 0x8E] (.bmi 0x8E) ∧ dec [0x31, 0x8E] (.andIzy 0x8E) ∧
    dec [0x32] .unaImp32 ∧ dec [0x33, 0x8E] (.rlaIzy 0x8E) ∧
    dec [0x34, 0x8E] (.unopZpx34 0x8E) ∧ dec [0x35, 0x8E] (.andZpx 0x8E) ∧
    dec [0x36, 0x8E] (.rolZpx 0x8E) ∧ dec [0x37, 0x8E] (.rlaZpx 0x8E) ∧
    dec [0x38] .sec ∧ dec [0x39, 0x34, 0x92] (.andAby 0x9234) ∧
    dec [0x3A] .unopImp3A ∧ dec [0x3B, 0x34, 0x92] (.rlaAby 0x9234) ∧
    dec [0x3C, 0x34, 0x92] (.unopAbx3C 0x9234) ∧ dec [0x3D, 0x34, 0x92] (.andAbx 0x9234) ∧
    dec [0x3E, 0x34, 0x92] (.rolAbx 0x9234) ∧ dec [0x3F, 0x34, 0x92] (.rlaAbx 0x9234)
    := by decide

/-- Opcodes 40 to 4F (R156). -/
theorem test_decode_row4 :
    dec [0x40] .rti ∧ dec [0x41, 0x8E] (.eorIzx 0x8E) ∧
    dec [0x42] .unaImp42 ∧ dec [0x43, 0x8E] (.sreIzx 0x8E) ∧
    dec [0x44, 0x8E] (.unopZp44 0x8E) ∧ dec [0x45, 0x8E] (.eorZp 0x8E) ∧
    dec [0x46, 0x8E] (.lsrZp 0x8E) ∧ dec [0x47, 0x8E] (.sreZp 0x8E) ∧
    dec [0x48] .pha ∧ dec [0x49, 0x8E] (.eorImm 0x8E) ∧
    dec [0x4A] .lsrAcc ∧ dec [0x4B, 0x8E] (.unaImm4B 0x8E) ∧
    dec [0x4C, 0x34, 0x92] (.jmpAbs 0x9234) ∧ dec [0x4D, 0x34, 0x92] (.eorAbs 0x9234) ∧
    dec [0x4E, 0x34, 0x92] (.lsrAbs 0x9234) ∧ dec [0x4F, 0x34, 0x92] (.sreAbs 0x9234)
    := by decide

/-- Opcodes 50 to 5F (R156). -/
theorem test_decode_row5 :
    dec [0x50, 0x8E] (.bvc 0x8E) ∧ dec [0x51, 0x8E] (.eorIzy 0x8E) ∧
    dec [0x52] .unaImp52 ∧ dec [0x53, 0x8E] (.sreIzy 0x8E) ∧
    dec [0x54, 0x8E] (.unopZpx54 0x8E) ∧ dec [0x55, 0x8E] (.eorZpx 0x8E) ∧
    dec [0x56, 0x8E] (.lsrZpx 0x8E) ∧ dec [0x57, 0x8E] (.sreZpx 0x8E) ∧
    dec [0x58] .cli ∧ dec [0x59, 0x34, 0x92] (.eorAby 0x9234) ∧
    dec [0x5A] .unopImp5A ∧ dec [0x5B, 0x34, 0x92] (.sreAby 0x9234) ∧
    dec [0x5C, 0x34, 0x92] (.unopAbx5C 0x9234) ∧ dec [0x5D, 0x34, 0x92] (.eorAbx 0x9234) ∧
    dec [0x5E, 0x34, 0x92] (.lsrAbx 0x9234) ∧ dec [0x5F, 0x34, 0x92] (.sreAbx 0x9234)
    := by decide

/-- Opcodes 60 to 6F (R156). -/
theorem test_decode_row6 :
    dec [0x60] .rts ∧ dec [0x61, 0x8E] (.adcIzx 0x8E) ∧
    dec [0x62] .unaImp62 ∧ dec [0x63, 0x8E] (.rraIzx 0x8E) ∧
    dec [0x64, 0x8E] (.unopZp64 0x8E) ∧ dec [0x65, 0x8E] (.adcZp 0x8E) ∧
    dec [0x66, 0x8E] (.rorZp 0x8E) ∧ dec [0x67, 0x8E] (.rraZp 0x8E) ∧
    dec [0x68] .pla ∧ dec [0x69, 0x8E] (.adcImm 0x8E) ∧
    dec [0x6A] .rorAcc ∧ dec [0x6B, 0x8E] (.unaImm6B 0x8E) ∧
    dec [0x6C, 0x34, 0x92] (.jmpInd 0x9234) ∧ dec [0x6D, 0x34, 0x92] (.adcAbs 0x9234) ∧
    dec [0x6E, 0x34, 0x92] (.rorAbs 0x9234) ∧ dec [0x6F, 0x34, 0x92] (.rraAbs 0x9234)
    := by decide

/-- Opcodes 70 to 7F (R156). -/
theorem test_decode_row7 :
    dec [0x70, 0x8E] (.bvs 0x8E) ∧ dec [0x71, 0x8E] (.adcIzy 0x8E) ∧
    dec [0x72] .unaImp72 ∧ dec [0x73, 0x8E] (.rraIzy 0x8E) ∧
    dec [0x74, 0x8E] (.unopZpx74 0x8E) ∧ dec [0x75, 0x8E] (.adcZpx 0x8E) ∧
    dec [0x76, 0x8E] (.rorZpx 0x8E) ∧ dec [0x77, 0x8E] (.rraZpx 0x8E) ∧
    dec [0x78] .sei ∧ dec [0x79, 0x34, 0x92] (.adcAby 0x9234) ∧
    dec [0x7A] .unopImp7A ∧ dec [0x7B, 0x34, 0x92] (.rraAby 0x9234) ∧
    dec [0x7C, 0x34, 0x92] (.unopAbx7C 0x9234) ∧ dec [0x7D, 0x34, 0x92] (.adcAbx 0x9234) ∧
    dec [0x7E, 0x34, 0x92] (.rorAbx 0x9234) ∧ dec [0x7F, 0x34, 0x92] (.rraAbx 0x9234)
    := by decide

/-- Opcodes 80 to 8F (R156). -/
theorem test_decode_row8 :
    dec [0x80, 0x8E] (.unopImm80 0x8E) ∧ dec [0x81, 0x8E] (.staIzx 0x8E) ∧
    dec [0x82, 0x8E] (.unopImm82 0x8E) ∧ dec [0x83, 0x8E] (.saxIzx 0x8E) ∧
    dec [0x84, 0x8E] (.styZp 0x8E) ∧ dec [0x85, 0x8E] (.staZp 0x8E) ∧
    dec [0x86, 0x8E] (.stxZp 0x8E) ∧ dec [0x87, 0x8E] (.saxZp 0x8E) ∧
    dec [0x88] .dey ∧ dec [0x89, 0x8E] (.unopImm89 0x8E) ∧
    dec [0x8A] .txa ∧ dec [0x8B, 0x8E] (.unaImm8B 0x8E) ∧
    dec [0x8C, 0x34, 0x92] (.styAbs 0x9234) ∧ dec [0x8D, 0x34, 0x92] (.staAbs 0x9234) ∧
    dec [0x8E, 0x34, 0x92] (.stxAbs 0x9234) ∧ dec [0x8F, 0x34, 0x92] (.saxAbs 0x9234)
    := by decide

/-- Opcodes 90 to 9F (R156). -/
theorem test_decode_row9 :
    dec [0x90, 0x8E] (.bcc 0x8E) ∧ dec [0x91, 0x8E] (.staIzy 0x8E) ∧
    dec [0x92] .unaImp92 ∧ dec [0x93, 0x8E] (.unaIzy93 0x8E) ∧
    dec [0x94, 0x8E] (.styZpx 0x8E) ∧ dec [0x95, 0x8E] (.staZpx 0x8E) ∧
    dec [0x96, 0x8E] (.stxZpy 0x8E) ∧ dec [0x97, 0x8E] (.saxZpy 0x8E) ∧
    dec [0x98] .tya ∧ dec [0x99, 0x34, 0x92] (.staAby 0x9234) ∧
    dec [0x9A] .txs ∧ dec [0x9B, 0x34, 0x92] (.unaAby9B 0x9234) ∧
    dec [0x9C, 0x34, 0x92] (.unaAbx9C 0x9234) ∧ dec [0x9D, 0x34, 0x92] (.staAbx 0x9234) ∧
    dec [0x9E, 0x34, 0x92] (.unaAby9E 0x9234) ∧ dec [0x9F, 0x34, 0x92] (.unaAby9F 0x9234)
    := by decide

/-- Opcodes A0 to AF (R156). -/
theorem test_decode_rowA :
    dec [0xA0, 0x8E] (.ldyImm 0x8E) ∧ dec [0xA1, 0x8E] (.ldaIzx 0x8E) ∧
    dec [0xA2, 0x8E] (.ldxImm 0x8E) ∧ dec [0xA3, 0x8E] (.laxIzx 0x8E) ∧
    dec [0xA4, 0x8E] (.ldyZp 0x8E) ∧ dec [0xA5, 0x8E] (.ldaZp 0x8E) ∧
    dec [0xA6, 0x8E] (.ldxZp 0x8E) ∧ dec [0xA7, 0x8E] (.laxZp 0x8E) ∧
    dec [0xA8] .tay ∧ dec [0xA9, 0x8E] (.ldaImm 0x8E) ∧
    dec [0xAA] .tax ∧ dec [0xAB, 0x8E] (.unaImmAB 0x8E) ∧
    dec [0xAC, 0x34, 0x92] (.ldyAbs 0x9234) ∧ dec [0xAD, 0x34, 0x92] (.ldaAbs 0x9234) ∧
    dec [0xAE, 0x34, 0x92] (.ldxAbs 0x9234) ∧ dec [0xAF, 0x34, 0x92] (.laxAbs 0x9234)
    := by decide

/-- Opcodes B0 to BF (R156). -/
theorem test_decode_rowB :
    dec [0xB0, 0x8E] (.bcs 0x8E) ∧ dec [0xB1, 0x8E] (.ldaIzy 0x8E) ∧
    dec [0xB2] .unaImpB2 ∧ dec [0xB3, 0x8E] (.laxIzy 0x8E) ∧
    dec [0xB4, 0x8E] (.ldyZpx 0x8E) ∧ dec [0xB5, 0x8E] (.ldaZpx 0x8E) ∧
    dec [0xB6, 0x8E] (.ldxZpy 0x8E) ∧ dec [0xB7, 0x8E] (.laxZpy 0x8E) ∧
    dec [0xB8] .clv ∧ dec [0xB9, 0x34, 0x92] (.ldaAby 0x9234) ∧
    dec [0xBA] .tsx ∧ dec [0xBB, 0x34, 0x92] (.unaAbyBB 0x9234) ∧
    dec [0xBC, 0x34, 0x92] (.ldyAbx 0x9234) ∧ dec [0xBD, 0x34, 0x92] (.ldaAbx 0x9234) ∧
    dec [0xBE, 0x34, 0x92] (.ldxAby 0x9234) ∧ dec [0xBF, 0x34, 0x92] (.laxAby 0x9234)
    := by decide

/-- Opcodes C0 to CF (R156). -/
theorem test_decode_rowC :
    dec [0xC0, 0x8E] (.cpyImm 0x8E) ∧ dec [0xC1, 0x8E] (.cmpIzx 0x8E) ∧
    dec [0xC2, 0x8E] (.unopImmC2 0x8E) ∧ dec [0xC3, 0x8E] (.dcpIzx 0x8E) ∧
    dec [0xC4, 0x8E] (.cpyZp 0x8E) ∧ dec [0xC5, 0x8E] (.cmpZp 0x8E) ∧
    dec [0xC6, 0x8E] (.decZp 0x8E) ∧ dec [0xC7, 0x8E] (.dcpZp 0x8E) ∧
    dec [0xC8] .iny ∧ dec [0xC9, 0x8E] (.cmpImm 0x8E) ∧
    dec [0xCA] .dex ∧ dec [0xCB, 0x8E] (.unaImmCB 0x8E) ∧
    dec [0xCC, 0x34, 0x92] (.cpyAbs 0x9234) ∧ dec [0xCD, 0x34, 0x92] (.cmpAbs 0x9234) ∧
    dec [0xCE, 0x34, 0x92] (.decAbs 0x9234) ∧ dec [0xCF, 0x34, 0x92] (.dcpAbs 0x9234)
    := by decide

/-- Opcodes D0 to DF (R156). -/
theorem test_decode_rowD :
    dec [0xD0, 0x8E] (.bne 0x8E) ∧ dec [0xD1, 0x8E] (.cmpIzy 0x8E) ∧
    dec [0xD2] .unaImpD2 ∧ dec [0xD3, 0x8E] (.dcpIzy 0x8E) ∧
    dec [0xD4, 0x8E] (.unopZpxD4 0x8E) ∧ dec [0xD5, 0x8E] (.cmpZpx 0x8E) ∧
    dec [0xD6, 0x8E] (.decZpx 0x8E) ∧ dec [0xD7, 0x8E] (.dcpZpx 0x8E) ∧
    dec [0xD8] .cld ∧ dec [0xD9, 0x34, 0x92] (.cmpAby 0x9234) ∧
    dec [0xDA] .unopImpDA ∧ dec [0xDB, 0x34, 0x92] (.dcpAby 0x9234) ∧
    dec [0xDC, 0x34, 0x92] (.unopAbxDC 0x9234) ∧ dec [0xDD, 0x34, 0x92] (.cmpAbx 0x9234) ∧
    dec [0xDE, 0x34, 0x92] (.decAbx 0x9234) ∧ dec [0xDF, 0x34, 0x92] (.dcpAbx 0x9234)
    := by decide

/-- Opcodes E0 to EF (R156). -/
theorem test_decode_rowE :
    dec [0xE0, 0x8E] (.cpxImm 0x8E) ∧ dec [0xE1, 0x8E] (.sbcIzx 0x8E) ∧
    dec [0xE2, 0x8E] (.unopImmE2 0x8E) ∧ dec [0xE3, 0x8E] (.iscIzx 0x8E) ∧
    dec [0xE4, 0x8E] (.cpxZp 0x8E) ∧ dec [0xE5, 0x8E] (.sbcZp 0x8E) ∧
    dec [0xE6, 0x8E] (.incZp 0x8E) ∧ dec [0xE7, 0x8E] (.iscZp 0x8E) ∧
    dec [0xE8] .inx ∧ dec [0xE9, 0x8E] (.sbcImm 0x8E) ∧
    dec [0xEA] .nop ∧ dec [0xEB, 0x8E] (.usbcImm 0x8E) ∧
    dec [0xEC, 0x34, 0x92] (.cpxAbs 0x9234) ∧ dec [0xED, 0x34, 0x92] (.sbcAbs 0x9234) ∧
    dec [0xEE, 0x34, 0x92] (.incAbs 0x9234) ∧ dec [0xEF, 0x34, 0x92] (.iscAbs 0x9234)
    := by decide

/-- Opcodes F0 to FF (R156). -/
theorem test_decode_rowF :
    dec [0xF0, 0x8E] (.beq 0x8E) ∧ dec [0xF1, 0x8E] (.sbcIzy 0x8E) ∧
    dec [0xF2] .unaImpF2 ∧ dec [0xF3, 0x8E] (.iscIzy 0x8E) ∧
    dec [0xF4, 0x8E] (.unopZpxF4 0x8E) ∧ dec [0xF5, 0x8E] (.sbcZpx 0x8E) ∧
    dec [0xF6, 0x8E] (.incZpx 0x8E) ∧ dec [0xF7, 0x8E] (.iscZpx 0x8E) ∧
    dec [0xF8] .sed ∧ dec [0xF9, 0x34, 0x92] (.sbcAby 0x9234) ∧
    dec [0xFA] .unopImpFA ∧ dec [0xFB, 0x34, 0x92] (.iscAby 0x9234) ∧
    dec [0xFC, 0x34, 0x92] (.unopAbxFC 0x9234) ∧ dec [0xFD, 0x34, 0x92] (.sbcAbx 0x9234) ∧
    dec [0xFE, 0x34, 0x92] (.incAbx 0x9234) ∧ dec [0xFF, 0x34, 0x92] (.iscAbx 0x9234)
    := by decide

/-! ### The checks of WellFormed.lean, each with a term that it refuses -/

theorem test_assigned_refuses_02 : Instr.unaImp02.assigned = false := by decide

theorem test_documented_refuses_a7 : (Instr.laxZp 0x10).documented = false := by decide

theorem test_documented_refuses_02 : Instr.unaImp02.documented = false := by decide

theorem test_documented_takes_a9 : (Instr.ldaImm 0x80).documented = true := by decide

/-- R163: no instruction is ill-formed, not even one of an unassigned byte. -/
theorem test_wellFormed_takes_02 : Instr.unaImp02.wellFormed = true := by decide

/-- Missing operand bytes are the only thing a decoder can refuse. -/
theorem test_decode_truncated :
    decode [] = .error .noOpcode ∧ decode [0xAD, 0x00] = .error (.truncated 0xAD) :=
  ⟨rfl, rfl⟩

/-! ### One CPU step: the vectors of spec/95_test_vectors.md -/

/-- A machine with these bytes at `pc` and these bytes in memory. -/
def cpu (pc : Word) (regs : State → State) (mem : List (Word × Byte)) (bs : List Byte) : State :=
  placeBytes pc bs
    (mem.foldl (fun s m => placeByte m.1 m.2 s) (regs { State.reset with pc := pc }))

/-- One step of the CPU ends with these registers, this many cycles, and these bytes of RAM
written. -/
def ends (s : State) (a x y sp p : Byte) (pc : Word) (cycles : Nat)
    (writes : List (Word × Byte)) : Bool :=
  match cpuStep s with
  | .next t =>
    t.a == a && t.x == x && t.y == y && t.sp == sp && t.p == p && t.pc == pc &&
    t.cyc == s.cyc + cycles &&
    t.ram == writes.foldl (fun m w => m.set (ramOffset w.1) w.2) s.ram
  | _ => false

/-- `BRK` (R266). -/
theorem test_brk_imp :
    ends (cpu 0x8000 (fun s => { s with p := 0x20 }) [(0xFFFE, 0x00), (0xFFFF, 0x90)] [0x00, 0xEA])
      0x00 0x00 0x00 0xFA 0x24 0x9000 7 [(0x01FD, 0x80), (0x01FC, 0x02), (0x01FB, 0x30)] = true :=
  by decide

/-- `BRK` (R266). -/
theorem test_brk_imp_2 :
    ends (cpu 0x8000 (fun s => { s with p := 0xE5, sp := 0x01 })
        [(0xFFFE, 0x34), (0xFFFF, 0x12)] [0x00])
      0x00 0x00 0x00 0xFE 0xE5 0x1234 7 [(0x0101, 0x80), (0x0100, 0x02), (0x01FF, 0xF5)] = true :=
  by decide

/-- `ORA` (R226). -/
theorem test_ora_imm :
    ends (cpu 0x8000 (fun s => { s with a := 0x01 }) [] [0x09, 0x80])
      0x81 0x00 0x00 0xFD 0xA4 0x8002 2 [] = true :=
  by decide

/-- `UNA` (R316). -/
theorem test_una_imp :
    ends (cpu 0x8000 (fun s => { s with a := 0x01 }) [] [0x02])
      0x01 0x00 0x00 0xFD 0x24 0x8001 2 [] = true :=
  by decide

/-- `UNA` (R316). -/
theorem test_una_izy :
    ends (cpu 0x8000 (fun s => { s with y := 0x01, a := 0xFF, x := 0xFF })
        [(0x0020, 0xFF), (0x0021, 0x02)] [0x93, 0x20])
      0xFF 0xFF 0x01 0xFD 0x24 0x8002 6 [] = true :=
  by decide

/-- `SLO` (R310). -/
theorem test_slo_zp :
    ends (cpu 0x8000 (fun s => { s with a := 0x01 }) [(0x0010, 0x81)] [0x07, 0x10])
      0x03 0x00 0x00 0xFD 0x25 0x8002 5 [(0x0010, 0x02)] = true :=
  by decide

/-- `SLO` (R310). -/
theorem test_slo_aby :
    ends (cpu 0x8000 (fun s => { s with y := 0x10, a := 0x00 }) [(0x0310, 0x40)] [0x1B, 0x00, 0x03])
      0x80 0x00 0x10 0xFD 0xA4 0x8003 7 [(0x0310, 0x80)] = true :=
  by decide

/-- `UNOP` (R315). -/
theorem test_unop_imp :
    ends (cpu 0x8000 (fun s => { s with p := 0xE5 }) [] [0x1A])
      0x00 0x00 0x00 0xFD 0xE5 0x8001 2 [] = true :=
  by decide

/-- `UNOP` (R315). -/
theorem test_unop_abx :
    ends (cpu 0x8000 (fun s => { s with x := 0x01 }) [] [0x1C, 0xFF, 0x02])
      0x00 0x01 0x00 0xFD 0x24 0x8003 5 [] = true :=
  by decide

/-- `ASL` (R251). -/
theorem test_asl_acc :
    ends (cpu 0x8000 (fun s => { s with a := 0x80 }) [] [0x0A])
      0x00 0x00 0x00 0xFD 0x27 0x8001 2 [] = true :=
  by decide

/-- `ASL` (R251). -/
theorem test_asl_zp :
    ends (cpu 0x8000 id [(0x0010, 0xFF)] [0x06, 0x10])
      0x00 0x00 0x00 0xFD 0xA5 0x8002 5 [(0x0010, 0xFE)] = true :=
  by decide

/-- `PHP` (R287). -/
theorem test_php_imp :
    ends (cpu 0x8000 (fun s => { s with p := 0x24 }) [] [0x08])
      0x00 0x00 0x00 0xFC 0x24 0x8001 3 [(0x01FD, 0x34)] = true :=
  by decide

/-- `PHP` (R287). -/
theorem test_php_imp_2 :
    ends (cpu 0x8000 (fun s => { s with p := 0xEF }) [] [0x08])
      0x00 0x00 0x00 0xFC 0xEF 0x8001 3 [(0x01FD, 0xFF)] = true :=
  by decide

/-- `BPL` (R273). -/
theorem test_bpl_rel :
    ends (cpu 0x8000 (fun s => { s with p := 0x24 }) [] [0x10, 0xFB])
      0x00 0x00 0x00 0xFD 0x24 0x7FFD 4 [] = true :=
  by decide

/-- `CLC` (R290). -/
theorem test_clc_imp :
    ends (cpu 0x8000 (fun s => { s with p := 0xEF }) [] [0x18])
      0x00 0x00 0x00 0xFD 0xEE 0x8001 2 [] = true :=
  by decide

/-- `JSR` (R263). -/
theorem test_jsr_abs :
    ends (cpu 0x8000 id [] [0x20, 0x00, 0x90])
      0x00 0x00 0x00 0xFB 0x24 0x9000 6 [(0x01FD, 0x80), (0x01FC, 0x02)] = true :=
  by decide

/-- `JSR` (R263). -/
theorem test_jsr_abs_2 :
    ends (cpu 0x8000 (fun s => { s with sp := 0x00 }) [] [0x20, 0x00, 0x90])
      0x00 0x00 0x00 0xFE 0x24 0x9000 6 [(0x0100, 0x80), (0x01FF, 0x02)] = true :=
  by decide

/-- `AND` (R225). -/
theorem test_and_imm :
    ends (cpu 0x8000 (fun s => { s with a := 0xF0 }) [] [0x29, 0x0F])
      0x00 0x00 0x00 0xFD 0x26 0x8002 2 [] = true :=
  by decide

/-- `RLA` (R311). -/
theorem test_rla_zp :
    ends (cpu 0x8000 (fun s => { s with a := 0xFF, p := 0x25 }) [(0x0010, 0x80)] [0x27, 0x10])
      0x01 0x00 0x00 0xFD 0x25 0x8002 5 [(0x0010, 0x01)] = true :=
  by decide

/-- `BIT` (R231). -/
theorem test_bit_zp :
    ends (cpu 0x8000 (fun s => { s with a := 0x3F }) [(0x0010, 0xC0)] [0x24, 0x10])
      0x3F 0x00 0x00 0xFD 0xE6 0x8002 3 [] = true :=
  by decide

/-- `BIT` (R231). -/
theorem test_bit_abs :
    ends (cpu 0x8000 (fun s => { s with a := 0x01, p := 0xE4 }) [(0x0300, 0x01)] [0x2C, 0x00, 0x03])
      0x01 0x00 0x00 0xFD 0x24 0x8003 4 [] = true :=
  by decide

/-- `ROL` (R253). -/
theorem test_rol_acc :
    ends (cpu 0x8000 (fun s => { s with a := 0x80, p := 0x25 }) [] [0x2A])
      0x01 0x00 0x00 0xFD 0x25 0x8001 2 [] = true :=
  by decide

/-- `ROL` (R253). -/
theorem test_rol_zpx :
    ends (cpu 0x8000 (fun s => { s with x := 0x01, p := 0x25 }) [(0x0000, 0x40)] [0x36, 0xFF])
      0x00 0x01 0x00 0xFD 0xA4 0x8002 6 [(0x0000, 0x81)] = true :=
  by decide

/-- `PLP` (R289). -/
theorem test_plp_imp :
    ends (cpu 0x8000 (fun s => { s with p := 0xEF }) [(0x01FE, 0x10)] [0x28])
      0x00 0x00 0x00 0xFE 0x20 0x8001 4 [] = true :=
  by decide

/-- `PLP` (R289). -/
theorem test_plp_imp_2 :
    ends (cpu 0x8000 (fun s => { s with p := 0x20 }) [(0x01FE, 0xFF)] [0x28])
      0x00 0x00 0x00 0xFE 0xEF 0x8001 4 [] = true :=
  by decide

/-- `BMI` (R272). -/
theorem test_bmi_rel :
    ends (cpu 0x8000 (fun s => { s with p := 0xA4 }) [] [0x30, 0x04])
      0x00 0x00 0x00 0xFD 0xA4 0x8006 3 [] = true :=
  by decide

/-- `SEC` (R291). -/
theorem test_sec_imp :
    ends (cpu 0x8000 (fun s => { s with p := 0x20 }) [] [0x38])
      0x00 0x00 0x00 0xFD 0x21 0x8001 2 [] = true :=
  by decide

/-- `RTI` (R265). -/
theorem test_rti_imp :
    ends (cpu 0x8000 id [(0x0100, 0x90), (0x01FE, 0xFF), (0x01FF, 0x00)] [0x40])
      0x00 0x00 0x00 0x00 0xEF 0x9000 6 [] = true :=
  by decide

/-- `EOR` (R227). -/
theorem test_eor_imm :
    ends (cpu 0x8000 (fun s => { s with a := 0xFF }) [] [0x49, 0xFF])
      0x00 0x00 0x00 0xFD 0x26 0x8002 2 [] = true :=
  by decide

/-- `SRE` (R312). -/
theorem test_sre_zp :
    ends (cpu 0x8000 (fun s => { s with a := 0x01 }) [(0x0010, 0x03)] [0x47, 0x10])
      0x00 0x00 0x00 0xFD 0x27 0x8002 5 [(0x0010, 0x01)] = true :=
  by decide

/-- `LSR` (R252). -/
theorem test_lsr_acc :
    ends (cpu 0x8000 (fun s => { s with a := 0x01 }) [] [0x4A])
      0x00 0x00 0x00 0xFD 0x27 0x8001 2 [] = true :=
  by decide

/-- `LSR` (R252). -/
theorem test_lsr_abx :
    ends (cpu 0x8000 (fun s => { s with x := 0x01 }) [(0x0300, 0x02)] [0x5E, 0xFF, 0x02])
      0x00 0x01 0x00 0xFD 0x24 0x8003 7 [(0x0300, 0x01)] = true :=
  by decide

/-- `PHA` (R286). -/
theorem test_pha_imp :
    ends (cpu 0x8000 (fun s => { s with a := 0xAB, sp := 0x00 }) [] [0x48])
      0xAB 0x00 0x00 0xFF 0x24 0x8001 3 [(0x0100, 0xAB)] = true :=
  by decide

/-- `JMP` (R261). -/
theorem test_jmp_abs :
    ends (cpu 0x8000 id [] [0x4C, 0x34, 0x12])
      0x00 0x00 0x00 0xFD 0x24 0x1234 3 [] = true :=
  by decide

/-- `JMP` (R261). -/
theorem test_jmp_ind :
    ends (cpu 0x8000 id [(0x0200, 0x90), (0x02FF, 0x00), (0x0300, 0x40)] [0x6C, 0xFF, 0x02])
      0x00 0x00 0x00 0xFD 0x24 0x9000 5 [] = true :=
  by decide

/-- `BVC` (R274). -/
theorem test_bvc_rel :
    ends (cpu 0x8000 (fun s => { s with p := 0x64 }) [] [0x50, 0x02])
      0x00 0x00 0x00 0xFD 0x64 0x8002 2 [] = true :=
  by decide

/-- `CLI` (R292). -/
theorem test_cli_imp :
    ends (cpu 0x8000 (fun s => { s with p := 0x24 }) [] [0x58])
      0x00 0x00 0x00 0xFD 0x20 0x8001 2 [] = true :=
  by decide

/-- `RTS` (R264). -/
theorem test_rts_imp :
    ends (cpu 0x8000 id [(0x01FE, 0x02), (0x01FF, 0x80)] [0x60])
      0x00 0x00 0x00 0xFF 0x24 0x8003 6 [] = true :=
  by decide

/-- `RTS` (R264). -/
theorem test_rts_imp_2 :
    ends (cpu 0x8000 (fun s => { s with sp := 0xFF }) [(0x0100, 0xFF), (0x0101, 0xFF)] [0x60])
      0x00 0x00 0x00 0x01 0x24 0x0000 6 [] = true :=
  by decide

/-- `ADC` (R221). -/
theorem test_adc_imm :
    ends (cpu 0x8000 (fun s => { s with a := 0x80 }) [] [0x69, 0x80])
      0x00 0x00 0x00 0xFD 0x67 0x8002 2 [] = true :=
  by decide

/-- `ADC` (R221). -/
theorem test_adc_imm_2 :
    ends (cpu 0x8000 (fun s => { s with a := 0x09, p := 0x2C }) [] [0x69, 0x09])
      0x12 0x00 0x00 0xFD 0x2C 0x8002 2 [] = true :=
  by decide

/-- `RRA` (R313). -/
theorem test_rra_zp :
    ends (cpu 0x8000 (fun s => { s with a := 0x7F, p := 0x24 }) [(0x0010, 0x01)] [0x67, 0x10])
      0x80 0x00 0x00 0xFD 0xE4 0x8002 5 [(0x0010, 0x00)] = true :=
  by decide

/-- `RRA` (R313). -/
theorem test_rra_zp_2 :
    ends (cpu 0x8000 (fun s => { s with a := 0xFF, p := 0x25 }) [(0x0010, 0x02)] [0x67, 0x10])
      0x80 0x00 0x00 0xFD 0xA5 0x8002 5 [(0x0010, 0x81)] = true :=
  by decide

/-- `ROR` (R254). -/
theorem test_ror_acc :
    ends (cpu 0x8000 (fun s => { s with a := 0x00, p := 0x25 }) [] [0x6A])
      0x80 0x00 0x00 0xFD 0xA4 0x8001 2 [] = true :=
  by decide

/-- `ROR` (R254). -/
theorem test_ror_abs :
    ends (cpu 0x8000 (fun s => { s with p := 0x25 }) [(0x0300, 0x01)] [0x6E, 0x00, 0x03])
      0x00 0x00 0x00 0xFD 0xA5 0x8003 6 [(0x0300, 0x80)] = true :=
  by decide

/-- `PLA` (R288). -/
theorem test_pla_imp :
    ends (cpu 0x8000 (fun s => { s with sp := 0xFF, a := 0x11 }) [(0x0100, 0x00)] [0x68])
      0x00 0x00 0x00 0x00 0x26 0x8001 4 [] = true :=
  by decide

/-- `BVS` (R275). -/
theorem test_bvs_rel :
    ends (cpu 0x8000 (fun s => { s with p := 0x64 }) [] [0x70, 0x02])
      0x00 0x00 0x00 0xFD 0x64 0x8004 3 [] = true :=
  by decide

/-- `SEI` (R293). -/
theorem test_sei_imp :
    ends (cpu 0x8000 (fun s => { s with p := 0x20 }) [] [0x78])
      0x00 0x00 0x00 0xFD 0x24 0x8001 2 [] = true :=
  by decide

/-- `STA` (R204). -/
theorem test_sta_abx :
    ends (cpu 0x8000 (fun s => { s with a := 0x77, x := 0x01 }) [] [0x9D, 0xFF, 0x02])
      0x77 0x01 0x00 0xFD 0x24 0x8003 5 [(0x0300, 0x77)] = true :=
  by decide

/-- `STA` (R204). -/
theorem test_sta_izy :
    ends (cpu 0x8000 (fun s => { s with a := 0x5A, y := 0x10 })
        [(0x0010, 0x00), (0x0011, 0x02)] [0x91, 0x10])
      0x5A 0x00 0x10 0xFD 0x24 0x8002 6 [(0x0210, 0x5A)] = true :=
  by decide

/-- `SAX` (R307). -/
theorem test_sax_zp :
    ends (cpu 0x8000 (fun s => { s with a := 0xF0, x := 0x3C, p := 0x24 }) [] [0x87, 0x10])
      0xF0 0x3C 0x00 0xFD 0x24 0x8002 3 [(0x0010, 0x30)] = true :=
  by decide

/-- `SAX` (R307). -/
theorem test_sax_izx :
    ends (cpu 0x8000 (fun s => { s with a := 0xFF, x := 0x01 })
        [(0x0010, 0x00), (0x0011, 0x03)] [0x83, 0x0F])
      0xFF 0x01 0x00 0xFD 0x24 0x8002 6 [(0x0300, 0x01)] = true :=
  by decide

/-- `STY` (R206). -/
theorem test_sty_zp :
    ends (cpu 0x8000 (fun s => { s with y := 0x00, p := 0xA4 }) [] [0x84, 0x05])
      0x00 0x00 0x00 0xFD 0xA4 0x8002 3 [(0x0005, 0x00)] = true :=
  by decide

/-- `STX` (R205). -/
theorem test_stx_zp :
    ends (cpu 0x8000 (fun s => { s with x := 0xFF }) [] [0x86, 0x00])
      0x00 0xFF 0x00 0xFD 0x24 0x8002 3 [(0x0000, 0xFF)] = true :=
  by decide

/-- `DEY` (R237). -/
theorem test_dey_imp :
    ends (cpu 0x8000 (fun s => { s with y := 0x00 }) [] [0x88])
      0x00 0x00 0xFF 0xFD 0xA4 0x8001 2 [] = true :=
  by decide

/-- `TXA` (R209). -/
theorem test_txa_imp :
    ends (cpu 0x8000 (fun s => { s with x := 0x7F }) [] [0x8A])
      0x7F 0x7F 0x00 0xFD 0x24 0x8001 2 [] = true :=
  by decide

/-- `BCC` (R268). -/
theorem test_bcc_rel :
    ends (cpu 0x8000 id [] [0x90, 0x7F])
      0x00 0x00 0x00 0xFD 0x24 0x8081 3 [] = true :=
  by decide

/-- `TYA` (R210). -/
theorem test_tya_imp :
    ends (cpu 0x8000 (fun s => { s with y := 0x00, a := 0x55 }) [] [0x98])
      0x00 0x00 0x00 0xFD 0x26 0x8001 2 [] = true :=
  by decide

/-- `TXS` (R212). -/
theorem test_txs_imp :
    ends (cpu 0x8000 (fun s => { s with x := 0x00, p := 0x24 }) [] [0x9A])
      0x00 0x00 0x00 0x00 0x24 0x8001 2 [] = true :=
  by decide

/-- `LDY` (R203). -/
theorem test_ldy_abx :
    ends (cpu 0x8000 (fun s => { s with x := 0x80 }) [(0x0300, 0xF0)] [0xBC, 0x80, 0x02])
      0x00 0x80 0xF0 0xFD 0xA4 0x8003 5 [] = true :=
  by decide

/-- `LDA` (R201). -/
theorem test_lda_aby :
    ends (cpu 0x8000 (fun s => { s with y := 0x02 }) [(0x0001, 0x99)] [0xB9, 0xFF, 0xFF])
      0x99 0x00 0x02 0xFD 0xA4 0x8003 5 [] = true :=
  by decide

/-- `LDA` (R201). -/
theorem test_lda_izx :
    ends (cpu 0x8000 (fun s => { s with x := 0x01 })
        [(0x0000, 0x12), (0x00FF, 0x34), (0x1234, 0x56)] [0xA1, 0xFE])
      0x56 0x01 0x00 0xFD 0x24 0x8002 6 [] = true :=
  by decide

/-- `LDX` (R202). -/
theorem test_ldx_zpy :
    ends (cpu 0x8000 (fun s => { s with y := 0xFF }) [(0x007F, 0x01)] [0xB6, 0x80])
      0x00 0x01 0xFF 0xFD 0x24 0x8002 4 [] = true :=
  by decide

/-- `LAX` (R306). -/
theorem test_lax_aby :
    ends (cpu 0x8000 (fun s => { s with y := 0x01, a := 0x55, x := 0x66 })
        [(0x0300, 0x00)] [0xBF, 0xFF, 0x02])
      0x00 0x00 0x01 0xFD 0x26 0x8003 5 [] = true :=
  by decide

/-- `LAX` (R306). -/
theorem test_lax_izy :
    ends (cpu 0x8000 (fun s => { s with y := 0x01 })
        [(0x0010, 0xFF), (0x0011, 0x02), (0x0300, 0x7E)] [0xB3, 0x10])
      0x7E 0x7E 0x01 0xFD 0x24 0x8002 6 [] = true :=
  by decide

/-- `TAY` (R208). -/
theorem test_tay_imp :
    ends (cpu 0x8000 (fun s => { s with a := 0x80 }) [] [0xA8])
      0x80 0x00 0x80 0xFD 0xA4 0x8001 2 [] = true :=
  by decide

/-- `TAX` (R207). -/
theorem test_tax_imp :
    ends (cpu 0x8000 (fun s => { s with a := 0x80 }) [] [0xAA])
      0x80 0x80 0x00 0xFD 0xA4 0x8001 2 [] = true :=
  by decide

/-- `BCS` (R269). -/
theorem test_bcs_rel :
    ends (cpu 0x8000 (fun s => { s with p := 0x25 }) [] [0xB0, 0x80])
      0x00 0x00 0x00 0xFD 0x25 0x7F82 4 [] = true :=
  by decide

/-- `CLV` (R296). -/
theorem test_clv_imp :
    ends (cpu 0x8000 (fun s => { s with p := 0xE4 }) [] [0xB8])
      0x00 0x00 0x00 0xFD 0xA4 0x8001 2 [] = true :=
  by decide

/-- `TSX` (R211). -/
theorem test_tsx_imp :
    ends (cpu 0x8000 (fun s => { s with sp := 0x00 }) [] [0xBA])
      0x00 0x00 0x00 0x00 0x26 0x8001 2 [] = true :=
  by decide

/-- `CPY` (R230). -/
theorem test_cpy_imm :
    ends (cpu 0x8000 (fun s => { s with y := 0x00 }) [] [0xC0, 0xFF])
      0x00 0x00 0x00 0xFD 0x24 0x8002 2 [] = true :=
  by decide

/-- `CMP` (R228). -/
theorem test_cmp_imm :
    ends (cpu 0x8000 (fun s => { s with a := 0x10 }) [] [0xC9, 0x11])
      0x10 0x00 0x00 0xFD 0xA4 0x8002 2 [] = true :=
  by decide

/-- `CMP` (R228). -/
theorem test_cmp_imm_2 :
    ends (cpu 0x8000 (fun s => { s with a := 0x00 }) [] [0xC9, 0x80])
      0x00 0x00 0x00 0xFD 0xA4 0x8002 2 [] = true :=
  by decide

/-- `DCP` (R308). -/
theorem test_dcp_zp :
    ends (cpu 0x8000 (fun s => { s with a := 0x00 }) [(0x0010, 0x01)] [0xC7, 0x10])
      0x00 0x00 0x00 0xFD 0x27 0x8002 5 [(0x0010, 0x00)] = true :=
  by decide

/-- `DCP` (R308). -/
theorem test_dcp_izx :
    ends (cpu 0x8000 (fun s => { s with a := 0x10 })
        [(0x0000, 0x00), (0x0001, 0x03), (0x0300, 0x11)] [0xC3, 0x00])
      0x10 0x00 0x00 0xFD 0x27 0x8002 8 [(0x0300, 0x10)] = true :=
  by decide

/-- `DEC` (R233). -/
theorem test_dec_zp :
    ends (cpu 0x8000 id [(0x0010, 0x00)] [0xC6, 0x10])
      0x00 0x00 0x00 0xFD 0xA4 0x8002 5 [(0x0010, 0xFF)] = true :=
  by decide

/-- `INY` (R235). -/
theorem test_iny_imp :
    ends (cpu 0x8000 (fun s => { s with y := 0x7F }) [] [0xC8])
      0x00 0x00 0x80 0xFD 0xA4 0x8001 2 [] = true :=
  by decide

/-- `DEX` (R236). -/
theorem test_dex_imp :
    ends (cpu 0x8000 (fun s => { s with x := 0x01 }) [] [0xCA])
      0x00 0x00 0x00 0xFD 0x26 0x8001 2 [] = true :=
  by decide

/-- `BNE` (R271). -/
theorem test_bne_rel :
    ends (cpu 0x8000 id [] [0xD0, 0x10])
      0x00 0x00 0x00 0xFD 0x24 0x8012 3 [] = true :=
  by decide

/-- `BNE` (R271). -/
theorem test_bne_rel_2 :
    ends (cpu 0xFFF0 id [] [0xD0, 0x7F])
      0x00 0x00 0x00 0xFD 0x24 0x0071 4 [] = true :=
  by decide

/-- `CLD` (R294). -/
theorem test_cld_imp :
    ends (cpu 0x8000 (fun s => { s with p := 0x2C }) [] [0xD8])
      0x00 0x00 0x00 0xFD 0x24 0x8001 2 [] = true :=
  by decide

/-- `CPX` (R229). -/
theorem test_cpx_imm :
    ends (cpu 0x8000 (fun s => { s with x := 0xFF }) [] [0xE0, 0x00])
      0x00 0xFF 0x00 0xFD 0xA5 0x8002 2 [] = true :=
  by decide

/-- `SBC` (R222). -/
theorem test_sbc_imm :
    ends (cpu 0x8000 (fun s => { s with a := 0x80, p := 0x25 }) [] [0xE9, 0x01])
      0x7F 0x00 0x00 0xFD 0x65 0x8002 2 [] = true :=
  by decide

/-- `SBC` (R222). -/
theorem test_sbc_imm_2 :
    ends (cpu 0x8000 (fun s => { s with a := 0x00, p := 0x24 }) [] [0xE9, 0x00])
      0xFF 0x00 0x00 0xFD 0xA4 0x8002 2 [] = true :=
  by decide

/-- `ISC` (R309). -/
theorem test_isc_zp :
    ends (cpu 0x8000 (fun s => { s with a := 0x05, p := 0x25 }) [(0x0010, 0xFF)] [0xE7, 0x10])
      0x05 0x00 0x00 0xFD 0x25 0x8002 5 [(0x0010, 0x00)] = true :=
  by decide

/-- `ISC` (R309). -/
theorem test_isc_abx :
    ends (cpu 0x8000 (fun s => { s with a := 0x20, x := 0x01, p := 0x24 })
        [(0x0300, 0x0F)] [0xFF, 0xFF, 0x02])
      0x0F 0x01 0x00 0xFD 0x25 0x8003 7 [(0x0300, 0x10)] = true :=
  by decide

/-- `INC` (R232). -/
theorem test_inc_zp :
    ends (cpu 0x8000 id [(0x0010, 0xFF)] [0xE6, 0x10])
      0x00 0x00 0x00 0xFD 0x26 0x8002 5 [(0x0010, 0x00)] = true :=
  by decide

/-- `INC` (R232). -/
theorem test_inc_abx :
    ends (cpu 0x8000 (fun s => { s with x := 0x01 }) [(0x0300, 0x7F)] [0xFE, 0xFF, 0x02])
      0x00 0x01 0x00 0xFD 0xA4 0x8003 7 [(0x0300, 0x80)] = true :=
  by decide

/-- `INX` (R234). -/
theorem test_inx_imp :
    ends (cpu 0x8000 (fun s => { s with x := 0xFF }) [] [0xE8])
      0x00 0x00 0x00 0xFD 0x26 0x8001 2 [] = true :=
  by decide

/-- `NOP` (R297). -/
theorem test_nop_imp :
    ends (cpu 0x8000 (fun s => { s with p := 0xE5 }) [] [0xEA])
      0x00 0x00 0x00 0xFD 0xE5 0x8001 2 [] = true :=
  by decide

/-- `USBC` (R314). -/
theorem test_usbc_imm :
    ends (cpu 0x8000 (fun s => { s with a := 0x00, p := 0x25 }) [] [0xEB, 0x01])
      0xFF 0x00 0x00 0xFD 0xA4 0x8002 2 [] = true :=
  by decide

/-- `BEQ` (R270). -/
theorem test_beq_rel :
    ends (cpu 0x8000 (fun s => { s with p := 0x26 }) [] [0xF0, 0xFE])
      0x00 0x00 0x00 0xFD 0x26 0x8000 3 [] = true :=
  by decide

/-- `BEQ` (R270). -/
theorem test_beq_rel_2 :
    ends (cpu 0x80FB (fun s => { s with p := 0x26 }) [] [0xF0, 0x03])
      0x00 0x00 0x00 0xFD 0x26 0x8100 4 [] = true :=
  by decide

/-- `SED` (R295). -/
theorem test_sed_imp :
    ends (cpu 0x8000 (fun s => { s with p := 0x24 }) [] [0xF8])
      0x00 0x00 0x00 0xFD 0x2C 0x8001 2 [] = true :=
  by decide

/-! ### Traps and reset (vectors X1 to X5) -/

/-- The vectors of X1 and X2 in program ROM. -/
def vectors (pc : Word) (sp p : Byte) : State :=
  cpu pc (fun s => { s with sp := sp, p := p })
    [(0xFFFA, 0x10), (0xFFFB, 0x80), (0xFFFE, 0x20), (0xFFFF, 0x80)] []

/-- The CPU part of an iteration ends so (the cycles are X1's and X2's 7). -/
def enters (s : State) (sp p : Byte) (pc : Word) (nmi : Bool) (ram : List (Word × Byte)) : Bool :=
  match cpuAdvance s with
  | .next t =>
    t.sp == sp && t.p == p && t.pc == pc && t.nmiPending == nmi && t.cyc == s.cyc + 7 &&
    t.ram == ram.foldl (fun m w => m.set (ramOffset w.1) w.2) s.ram
  | _ => false

/-- X1: an NMI entry. -/
theorem test_nmi_entry :
    enters { vectors 0x8005 0xFD 0xA4 with nmiPending := true } 0xFA 0xA4 0x8010 false
      [(0x01FD, 0x80), (0x01FC, 0x05), (0x01FB, 0xA4)] = true := by decide

/-- The frame interrupt raised. -/
def withIrq (s : State) : State := { s with apu := { s.apu with frameIrq := true } }

/-- X2: an IRQ entry. -/
theorem test_irq_entry :
    enters (withIrq (vectors 0x8001 0xFD 0x20)) 0xFA 0x24 0x8020 false
      [(0x01FD, 0x80), (0x01FC, 0x01), (0x01FB, 0x20)] = true := by decide

/-- X3: a raised line with I set is no event. -/
theorem test_irq_masked : poll (withIrq (vectors 0x8001 0xFD 0x24)) = none := by decide

/-- X4: the NMI goes first. -/
theorem test_nmi_before_irq :
    enters { withIrq (vectors 0x8001 0xFD 0x20) with nmiPending := true } 0xFA 0x24 0x8010 false
      [(0x01FD, 0x80), (0x01FC, 0x01), (0x01FB, 0x20)] = true := by decide

/-- X5: reset reads its vector through the mapper. -/
theorem test_reset :
    let t := hostReset (cpu 0x1234 (fun s => { s with a := 1, x := 2, y := 3, sp := 4, p := 0xFF })
      [(0xFFFC, 0x00), (0xFFFD, 0x80), (0x0010, 0x55)] [])
    (t.a, t.x, t.y, t.sp, t.p) = (0x00, 0x00, 0x00, 0xFD, 0x24) ∧
    (t.pc, t.cyc, t.nmiPending, t.stall, t.busLatch) = (0x8000, 7, false, 0, 0x80) ∧
    t.ram = [] := by decide

/-- `State.reset` is what `reset()` makes of the machine with the blank cartridge (R740). -/
theorem test_reset_is_reset : hostReset State.reset = State.reset := by decide +kernel

/-- The memories of `State.reset` are in canonical form. -/
theorem test_reset_memories : memoriesOk State.reset = true := by decide

/-! ### The CPU bus (vectors B1 to B9) -/

/-- B1, B2: the four mirrors of work RAM. -/
theorem test_ram_mirrors :
    let s := wr 0x0001 0xAA State.reset
    (peek 0x0001 s, peek 0x0801 s, peek 0x1001 s, peek 0x1801 s) = (0xAA, 0xAA, 0xAA, 0xAA) ∧
    (wr 0x1FFF 0x55 State.reset).ram.get 0x7FF = 0x55 := by decide

/-- B3: register number `a & 7`. -/
theorem test_register_mirror : wr 0x3456 0x21 State.reset = wr 0x2006 0x21 State.reset := by
  decide

/-- B4, B5: an unmapped read returns the last byte fetched. -/
theorem test_open_bus :
    (match cpuStep (cpu 0x8000 id [] [0xAD, 0x00, 0x50]) with | .next t => t.a | _ => 0) = 0x50 ∧
    (match cpuStep (cpu 0x8000 id [] [0xAD, 0x18, 0x40]) with | .next t => t.a | _ => 0) = 0x40 :=
  by decide

/-- B6: ROM of mapper 0 ignores writes. -/
theorem test_rom_write : wr 0x8000 0x12 (cpu 0x8000 id [] [0xEA]) = cpu 0x8000 id [] [0xEA] := by
  decide

/-- B7: a write-only video register reads back the latch. -/
theorem test_write_only_register :
    let s := wr 0x2000 0x77 State.reset
    peek 0x2000 s = 0x77 ∧ s.ppu.ctrl = 0x77 := by decide

/-- B8: one PRG bank is seen twice. -/
theorem test_one_bank_mirror :
    let c := { Cartridge.blank with prgBanks := 1, prgRom := [(0, 0x4C), (0x3FFC, 0x12)] }
    let s := { State.reset with cart := c }
    (peek 0x8000 s, peek 0xC000 s, peek 0xFFFC s) = (0x4C, 0x4C, 0x12) := by decide

/-- B9: program RAM. -/
theorem test_program_ram :
    let s := wr 0x6000 0x5A State.reset
    peek 0x6000 s = 0x5A ∧ s.cart.prgRam = some [(0, 0x5A)] := by decide

/-! ### The video unit (vectors V1 to V13) -/

/-- A machine with this video unit. -/
def video (f : Ppu → Ppu) : State := { State.reset with ppu := f State.reset.ppu }

/-- V1: vertical blank begins at (241, 1), without an interrupt while `nmi_en` is 0. -/
theorem test_vblank_starts :
    let t := tick (video fun p => { p with scanline := 241, dot := 1 })
    (t.ppu.vblank, t.ppu.frame, t.ppu.frameReady, t.host.frames.length, t.nmiPending) =
      (true, 1, true, 1, false) := by decide

/-- V2: it ends at (261, 1). -/
theorem test_vblank_ends :
    let s := video fun p => { p with scanline := 261, dot := 1, vblank := true }
    (tick s).ppu.vblank = false := by decide

/-- V4: the odd-frame skip, with rendering on only. -/
theorem test_odd_skip :
    let t := tick (video fun p => { p with scanline := 261, dot := 339, odd := true, mask := 0x08 })
    let u := tick (video fun p => { p with scanline := 261, dot := 339, odd := true })
    (t.ppu.scanline, t.ppu.dot, t.ppu.odd) = (0, 0, false) ∧
    (u.ppu.scanline, u.ppu.dot, u.ppu.odd) = (261, 340, true) := by decide +kernel

/-- V5: reading the status register. -/
theorem test_status_read :
    let s := video fun p => { p with vblank := true, ioLatch := 0x1F, w := true }
    let t := afterRd 0x2002 s
    (peek 0x2002 s, t.ppu.vblank, t.ppu.w, peek 0x2002 t) = (0x9F, false, false, 0x1F) := by decide

/-- The video address written in two halves. -/
def atAddress (h l : Byte) (s : State) : State := wr 0x2006 l (wr 0x2006 h s)

/-- V6: buffered data reads. -/
theorem test_data_reads :
    let s := atAddress 0x20 0x00 { State.reset with vram := [(0, 0x11), (1, 0x22)] }
    let t := (readsOf 0x2007 3 s)
    s.ppu.v = 0x2000 ∧ t.1 = [0x00, 0x11, 0x22] ∧ t.2.ppu.v = 0x2003 ∧ t.2.ppu.readBuf = 0x00 :=
  by decide

/-- V7: the increment of 32. -/
theorem test_data_reads_down :
    let s := atAddress 0x20 0x00
      { video (fun p => { p with ctrl := 0x04 }) with vram := [(0, 0x11), (0x20, 0x33)] }
    let t := (readsOf 0x2007 3 s)
    t.1 = [0x00, 0x11, 0x33] ∧ t.2.ppu.v = 0x2060 := by decide

/-- V8: palette entry 10 is entry 00, bits 7:6 dropped; the palette reads at once. -/
theorem test_palette :
    let s := wr 0x2007 0xEA (atAddress 0x3F 0x10 State.reset)
    s.ppu.pal.get 0 = 0x2A ∧ peek 0x2007 (atAddress 0x3F 0x00 s) = 0x2A := by decide

/-- V9, V10: the nametable mirrors. -/
theorem test_nametables :
    let h := ppuWr 0x2005 0x77 State.reset
    let v := ppuWr 0x2005 0x77
      { State.reset with cart := { Cartridge.blank with mirroring := .V } }
    [0x2005, 0x2405, 0x2805, 0x2C05, 0x3005].map (fun a => ppuRd a h) = [0x77, 0x77, 0, 0, 0x77] ∧
    [0x2005, 0x2405, 0x2805, 0x2C05, 0x3005].map (fun a => ppuRd a v) = [0x77, 0, 0x77, 0, 0x77] :=
  by decide

/-- V11 (R499): scroll and address writes. -/
theorem test_scroll :
    let s := wr 0x2005 0x5E (wr 0x2005 0x7D State.reset)
    let u := atAddress 0x3D 0xF0 s
    (s.ppu.t, s.ppu.fineX) = (0x616F, 5) ∧ (u.ppu.t, u.ppu.v) = (0x3DF0, 0x3DF0) := by decide

/-- V12, V13: object memory through its registers. -/
theorem test_oam :
    let s := wr 0x2004 0x03 (wr 0x2004 0x02 (wr 0x2004 0x01
      (video fun p => { p with oamAddr := 0xFE })))
    (s.ppu.oam, s.ppu.oamAddr) = ([(0, 3), (0xFE, 1), (0xFF, 2)], 0x01) ∧
    peek 0x2004 (video fun p => { p with oamAddr := 0x02, oam := [(2, 0xFF)] }) = 0xE3 := by decide

/-! ### The audio unit (vectors A1 to A4, examples R616 to R619) -/

/-- A1: a write of 0x80 to 0x4017 fires a half frame at once. -/
theorem test_frame_register :
    let s := wr 0x4003 0x08 (wr 0x4000 0x00 (wr 0x4015 0x01 State.reset))
    let t := wr 0x4017 0x80 s
    (s.apu.pulse1.lc.len, t.apu.pulse1.lc.len) = (254, 253) ∧ (peek 0x4015 t).getLsbD 0 = true :=
  by decide

/-- A2: the count at which the frame interrupt appears, and the read that clears it. -/
theorem test_frame_irq :
    let u := { State.reset.apu with parity := true, fc := 14913 }
    let s := { State.reset with apu := u.clockFront }
    s.apu.frameIrq = true ∧ peek 0x4015 s = 0x40 ∧ (afterRd 0x4015 s).apu.frameIrq = false := by
  decide

/-- A3: bit 6 of 0x4017 withholds it. -/
theorem test_frame_irq_inhibited :
    let s := wr 0x4017 0x40 (withIrq State.reset)
    s.apu.frameIrq = false ∧
    ({ s.apu with parity := true, fc := 14913 } : Apu).clockFront.frameIrq = false := by decide

/-- A4: a write of 0 to 0x4015 silences. -/
theorem test_silence :
    (wr 0x4015 0x00 (wr 0x4003 0x08 (wr 0x4015 0x01 State.reset))).apu.pulse1.lc = ⟨0, false⟩ :=
  by decide

/-- R616: the envelope after its start and after four more quarters. -/
theorem test_envelope :
    let e : Envelope := ⟨true, false, false, 3, 0, 0⟩
    (e.clock.decay, e.clock.div) = (15, 3) ∧ e.clock.clock.clock.clock.clock.decay = 14 :=
  by decide

/-- R617: the sweep targets of the two pulse channels, and the muting overflow. -/
theorem test_sweep :
    let p := { Pulse.reset with timerPeriod := 0x100, swShift := 1, swNeg := true }
    (p.sweepTarget true, p.sweepTarget false) = (0x7F, 0x80) ∧
    { Pulse.reset with timerPeriod := 0x400 }.sweepMute true = true := by decide

/-- R618: two clocks of the noise register. -/
theorem test_noise :
    Noise.reset.nextLfsr = 0x4000 ∧ { Noise.reset with lfsr := 0x4000 }.nextLfsr = 0x2000 := by
  decide

/-- R619: the delta level's limits, the sample address and length. -/
theorem test_delta :
    let d := { Dmc.reset with silence := false, shift := 1 }
    ({ d with level := 126 }.nextLevel, { d with level := 125 }.nextLevel) = (126, 127) ∧
    { d with level := 1, shift := 0 }.nextLevel = 1 ∧
    ((d.write12 0xFF).sampleAddr, (d.write13 0xFF).sampleLen) = (0xFFC0, 4081) ∧
    ({ d with curAddr := 0xFFFF, bytesLeft := 2 }.fetched 0x00).curAddr = 0x8000 := by decide

/-! ### The mappers (vectors M1 to M9) -/

/-- A machine with this mapper, 8 PRG banks and 4 CHR banks, and these ROM bytes. -/
def mapped (m : Mapper) (rom chr : Memory) : State :=
  { State.reset with
    mapper := m
    cart := { Cartridge.blank with prgBanks := 8, chrBanks := 4, prgRom := rom, chr := chr } }

/-- The shift-register mapper after five writes. -/
def serial (a : Word) (v0 v1 v2 v3 v4 : Byte) (s : State) : State :=
  wr a v4 (wr a v3 (wr a v2 (wr a v1 (wr a v0 s))))

/-- M1: five serial writes select PRG bank 5. -/
theorem test_serial_bank :
    let s := serial 0xE000 1 0 1 0 0
      (mapped (.shiftRegister (Mmc1.reset .H)) [(0x14000, 0xA1), (0x1C000, 0xA2)] [])
    (peek 0x8000 s, peek 0xC000 s) = (0xA1, 0xA2) := by decide

/-- M2: a write with bit 7 set begins a new sequence. -/
theorem test_serial_reset :
    (wr 0xE000 0x80 (wr 0xE000 0 (wr 0xE000 1
      (mapped (.shiftRegister (Mmc1.reset .H)) [] [])))).mapper =
      .shiftRegister (Mmc1.reset .H) := by decide

/-- M3: the control register and its mirroring. -/
theorem test_serial_control :
    (serial 0x8000 0 1 0 0 0 (mapped (.shiftRegister (Mmc1.reset .H)) [] [])).mapper =
      .shiftRegister { Mmc1.reset .V with control := 0x02 } := by decide

/-- M4: mapper 2. -/
theorem test_swap16 :
    let s := wr 0x8000 0x0B (mapped (.swap16 0) [(0xC123, 0xB1), (0x1FFFC, 0xB2)] [])
    (peek 0x8123 s, peek 0xFFFC s) = (0xB1, 0xB2) := by decide

/-- M5: mapper 3. -/
theorem test_chr_select :
    ppuRd 0x0010 (wr 0x8000 0x06 (mapped (.chrSelect 0) [] [(0x4010, 0xC1)])) = 0xC1 := by decide

/-- M6: mapper 7. -/
theorem test_swap32 :
    let s := wr 0x8000 0x13 (mapped (.swap32 0 false .H) [(0x18000, 0xD1)] [])
    (peek 0x8000 s, mapNametableAddress s.cart s.mapper 0x2C05) = (0xD1, 0x0405) := by decide

/-- R61, R673: variant 7 is constructed with the cartridge's mode; reset() selects S0. -/
theorem test_swap32_reset :
    let c := { Cartridge.blank with mirroring := .V }
    let m := (Mapper.construct c 7).getD .fixed
    (currentMirroring c m, currentMirroring c (m.reset c)) = (.V, .S0) := by decide

/-- R673: a write with bit 4 clear selects S0, whatever the mode was. -/
theorem test_swap32_start : ∀ mir ∈ [Mirroring.H, .V, .S0, .S1],
    let s := wr 0xFFFF 0xEF (mapped (.swap32 0 false mir) [] [])
    (s.mapper == .swap32 7 false .S0 && mapNametableAddress s.cart s.mapper 0x2C05 == 0x0005) := by
  decide

/-- M7, M8: loads that fail; version 2 and an incomplete body. -/
theorem test_load_errors :
    let e (b3 b4 b6 b7 : Byte) :=
      (hostLoad ([0x4E, 0x45, 0x53, b3, b4, 0, b6, b7] ++ List.replicate 8 0) State.reset).error
    e 0x00 0 0 0 = some .badMagic ∧ e 0x1A 0 0 0x08 = some .unsupportedVersion ∧
    e 0x1A 1 0 0 = some .badMagic ∧
    Mapper.construct Cartridge.blank (parseHeader [0, 0, 0, 0, 0, 0, 0x41, 0x00]).mapperId = none :=
  by decide

/-- M9: the trainer is skipped. -/
theorem test_trainer : (parseHeader [0, 0, 0, 0, 0, 0, 0x04, 0x00]).prgStart = 528 := by decide

/-! ### The orchestrator (vectors O1 to O4) and whole steps -/

/-- The next state of a step, or the state itself where there is none. -/
def after (s : State) : State :=
  match step s with
  | .next t => t
  | _ => s

/-- O1: `LDA $2002` is 12 ticks and 4 cycles. -/
theorem test_lda_status_step :
    let t := after (State.reset.withFetchWord 24 0x2002AD)
    (t.cyc, t.ppu.dot) = (11, 12) := by decide +kernel

/-- O2: the OAM copy from an odd cycle is 514 cycles more than the store's 4. -/
theorem test_oam_copy_cycles :
    (match exec (.staAbs 0x4014) State.reset with
      | .next t => t.cyc - 7 + t.stall
      | _ => 0) = 518 := by decide +kernel

/-- O3: object memory after a copy of page 2. -/
theorem test_oam_copy :
    let s := wr 0x4014 0x02 { State.reset with ram := [(0x201, 1), (0x2FF, 0xFE)], cyc := 8 }
    (s.ppu.oam, s.stall, s.ppu.oamAddr) = ([(1, 1), (0xFF, 0xFE)], 513, 0) := by decide +kernel

/-- O4: nine serial reads of the port. -/
theorem test_controller :
    (readsOf 0x4016 9 (wr 0x4016 0 (wr 0x4016 1
      (hostInput 0x09 0 (hostInput 0x09 0 State.reset))))).1 = [1, 0, 0, 1, 0, 0, 0, 0, 1] := by
  decide +kernel

/-- A placed instruction runs at once, from reset and after an NMI has become pending. -/
theorem test_placed_instruction :
    (after (State.reset.withFetchWord 16 0x80A9)).a = 0x80 ∧
    (after ({ State.reset with nmiPending := true }.withFetchWord 16 0x80A9)).a = 0x80 := by
  decide +kernel

/-- The reset machine with nothing placed executes the byte 0x00 that its ROM and RAM read as. -/
theorem test_step_of_reset : (after State.reset).sp = 0xFA := by decide +kernel


/-! ### Witnesses: the hypotheses of every statement are met together

Named after the statement. Where the hypothesis only names an instruction, the witness is an
instruction of each mnemonic (and of each format the statement tells apart). -/

/-- A state with A = F0, X = 01, Y = 02, C set, a pointer at 0x10 and a byte at 0x0300. -/
def sample : State :=
  cpu 0x8000 (fun s => { s with a := 0xF0, x := 0x01, y := 0x02, p := 0x25 })
    [(0x0010, 0xFF), (0x0011, 0x02), (0x0300, 0x81)] []

/-- The outcome is a next state. -/
def goesOn : Result → Bool
  | .next _ => true
  | _ => false

theorem next_of_goesOn {r : Result} (h : goesOn r = true) : ∃ t, r = .next t := by
  cases r with
  | next t => exact ⟨t, rfl⟩
  | fault f => cases h
  | refused f => cases h

/-- `sample` as a machine with both interrupt requests. -/
def interrupted : State := { withIrq sample with p := 0x20, nmiPending := true }

theorem witness_EncodeOfDecode : decode [0xA9, 0x80, 0x33] = .ok (.ldaImm 0x80, [0x33]) := rfl

theorem witness_StepRunsTheDecodedInstruction :
    let s := cpu 0x8000 id [] [0xAD, 0x00, 0x03]
    poll s = none ∧ decode (readBytes (Instr.ldaAbs 0x0300).length s.pc s).1 =
      .ok (.ldaAbs 0x0300, []) :=
  ⟨rfl, rfl⟩

theorem witness_EffectiveAddresses :
    (resolve (.abx 0x02FF) sample).crossed = true ∧ (resolve (.aby 0x02FE) sample).crossed = true ∧
    (resolve (.izy 0x10) sample).crossed = true ∧ (Operand.zp 0x10 ≠ .acc) := by decide

theorem witness_LoadsPutTheByteInTheirRegister :
    (Instr.ldaIzy 0x10).mnemonic = .LDA ∧ (Instr.ldxZpy 0x10).mnemonic = .LDX ∧
    (Instr.ldyAbx 0x02FF).mnemonic = .LDY ∧ (Instr.laxIzx 0x0F).mnemonic = .LAX := by decide

theorem witness_LogicInstructions :
    let m := (fetchOperand (.abs 0x0300) sample).value
    m = 0x81 ∧
    ((Instr.andAbs 0x0300).mnemonic = .AND ∧ (0x80 : Byte) = sample.a &&& m) ∧
    ((Instr.oraAbs 0x0300).mnemonic = .ORA ∧ (0xF1 : Byte) = sample.a ||| m) ∧
    ((Instr.eorAbs 0x0300).mnemonic = .EOR ∧ (0x71 : Byte) = sample.a ^^^ m) := by decide

theorem witness_AddWithCarry : (Instr.adcIzx 0x0F).mnemonic = .ADC := by decide

theorem witness_SubtractWithBorrow :
    (Instr.sbcAby 0x02FF).mnemonic = .SBC ∧ (Instr.usbcImm 0x01).mnemonic = .USBC := by decide

theorem witness_CompareInstructions :
    (Instr.cmpIzy 0x10).mnemonic = .CMP ∧ (Instr.cpxZp 0x10).mnemonic = .CPX ∧
    (Instr.cpyAbs 0x0300).mnemonic = .CPY ∧ (Instr.bitAbs 0x0300).mnemonic = .BIT := by decide

theorem witness_IncrementAndDecrementMemory :
    let m := (fetchOperand (.zp 0x10) sample).value
    ((Instr.incZp 0x10).mnemonic = .INC ∧ (0x00 : Byte).toNat = (m.toNat + 1) % 256) ∧
    ((Instr.decZp 0x10).mnemonic = .DEC ∧ (0xFE : Byte).toNat = (m.toNat + 255) % 256) := by decide

/-- The operand is 0x81 and C is set: one result of each shift and rotate, in both formats. -/
theorem witness_ShiftsAndRotates :
    let m := (fetchOperand (.abs 0x0300) sample).value
    let a := (fetchOperand .acc { sample with a := 0x81 }).value
    m = 0x81 ∧ a = 0x81 ∧ getFlag .C sample.p = true ∧
    ((Instr.aslAbs 0x0300).mnemonic = .ASL ∧ Instr.aslAcc.mnemonic = .ASL ∧
      ∀ k < 8, (0x02 : Byte).getLsbD k = if k = 0 then false else m.getLsbD (k - 1)) ∧
    ((Instr.rolAbs 0x0300).mnemonic = .ROL ∧ Instr.rolAcc.mnemonic = .ROL ∧
      ∀ k < 8, (0x03 : Byte).getLsbD k = if k = 0 then true else m.getLsbD (k - 1)) ∧
    ((Instr.lsrAbs 0x0300).mnemonic = .LSR ∧ Instr.lsrAcc.mnemonic = .LSR ∧
      ∀ k < 8, (0x40 : Byte).getLsbD k = if k = 7 then false else m.getLsbD (k + 1)) ∧
    ((Instr.rorAbs 0x0300).mnemonic = .ROR ∧ Instr.rorAcc.mnemonic = .ROR ∧
      ∀ k < 8, (0xC0 : Byte).getLsbD k = if k = 7 then true else m.getLsbD (k + 1)) := by decide

theorem witness_StoresWriteTheirAddress :
    (Instr.staIzy 0x10).mnemonic = .STA ∧ (Instr.stxZpy 0x10).mnemonic = .STX ∧
    (Instr.styZpx 0x10).mnemonic = .STY ∧
    ((Instr.saxIzx 0x0F).mnemonic = .SAX ∧ (0x00 : Byte) = sample.a &&& sample.x) := by decide

theorem witness_NoOperations :
    Instr.nop.mnemonic = .NOP ∧ (Instr.unopAbx1C 0x02FF).mnemonic = .UNOP ∧
    (Instr.unaIzy93 0x10).mnemonic = .UNA ∧ Instr.nop.operand = .imp ∧
    (Instr.unopImm80 0x12).operand = .imm 0x12 ∧ (Instr.unaIzy93 0x10).operand ≠ .imp := by decide

theorem witness_CombinedReadModifyWrite :
    (Instr.sloIzy 0x10).mnemonic = .SLO ∧ (Instr.rlaIzx 0x0F).mnemonic = .RLA ∧
    (Instr.sreAby 0x02FF).mnemonic = .SRE ∧ (Instr.rraZpx 0x10).mnemonic = .RRA ∧
    (Instr.dcpAbx 0x02FF).mnemonic = .DCP ∧ (Instr.iscZp 0x10).mnemonic = .ISC := by decide

/-- PLP after PHP, with S at the bottom of the stack page. -/
theorem witness_PullInstructions :
    ∃ t u, ({ sample with sp := 0x00 }).ram.wf = true ∧ pOk sample.p = true ∧
      exec .php { sample with sp := 0x00 } = .next t ∧ exec .plp t = .next u :=
  ⟨_, _, by decide, by decide, rfl, rfl⟩

/-- RTS after JSR, with S at the bottom of the stack page. -/
theorem witness_ReturnAfterCall :
    ∃ t u, ({ sample with sp := 0x00 }).ram.wf = true ∧
      exec (.jsrAbs 0x9000) { sample with sp := 0x00 } = .next t ∧ exec .rts t = .next u :=
  ⟨_, _, by decide, rfl, rfl⟩

/-- The three cases of the poll: an NMI, an IRQ, none although the line is raised. -/
theorem witness_InterruptPoll :
    (interrupted.nmiPending = true) ∧
    (let s := { interrupted with nmiPending := false }
     s.nmiPending = false ∧ s.irqLine = true ∧ getFlag .I s.p = false) ∧
    (let s := { interrupted with nmiPending := false, p := 0x24 }
     s.nmiPending = false ∧ s.irqLine = true ∧ getFlag .I s.p = true) ∧
    (sample.nmiPending = false ∧ sample.irqLine = false) := by decide

theorem witness_ReturnAfterTrap :
    (interrupted.ram.wf = true ∧ pOk interrupted.p = true) ∧
    (∃ u, exec .rti (interrupt .nmi interrupted) = .next u) ∧
    (∃ u, exec .rti (interrupt .irq interrupted) = .next u) ∧
    (∃ t u, exec .brk interrupted = .next t ∧ exec .rti t = .next u) :=
  ⟨by decide, ⟨_, rfl⟩, ⟨_, rfl⟩, ⟨_, _, rfl, rfl⟩⟩

/-- The conditions of the branches: each flag both ways (P = 25 sets C only, P = E6 N, V, Z). -/
theorem witness_ConditionalBranches :
    [getFlag .C 0x25, getFlag .Z 0x25, getFlag .N 0x25, getFlag .V 0x25] =
      [true, false, false, false] ∧
    [getFlag .C 0xE6, getFlag .Z 0xE6, getFlag .N 0xE6, getFlag .V 0xE6] =
      [false, true, true, true] := by decide

theorem witness_OnlyTheNamedInstructionsWriteARegister :
    (∃ t, exec (.cmpImm 0x10) sample = .next t) ∧
    (∃ m ∈ [(Instr.cmpImm 0x10).mnemonic], m ∉ writersOfA ∧ m ∉ writersOfX ∧ m ∉ writersOfY ∧
      m ∉ writersOfS) ∧
    (∃ t, exec (.aslZp 0x10) sample = .next t) ∧
    ((Instr.aslZp 0x10).mnemonic ∈ [Mnemonic.ASL, .LSR, .ROL, .ROR] ∧
      (Instr.aslZp 0x10).operand ≠ .acc) :=
  ⟨⟨_, rfl⟩, ⟨_, List.mem_singleton.2 rfl, by decide⟩, ⟨_, rfl⟩, by decide⟩

theorem witness_OnlyTheNamedInstructionsWriteAFlag :
    pOk sample.p = true ∧ (∃ t, exec .nop sample = .next t) ∧
    ∀ f ∈ [Flag.C, .Z, .I, .D, .B, .U, .V, .N], Instr.nop.mnemonic ∉ writersOfFlag f :=
  ⟨by decide, ⟨_, rfl⟩, by decide⟩

/-- A store to 0x0301 (the sample's X is 1) leaves the byte at 0x0300 and every other storage. -/
theorem witness_StorageChangesOnlyWhereTheInstructionStores :
    (∃ t, exec (.staAbx 0x0300) sample = .next t) ∧
    ¬ instrStoresTo (.staAbx 0x0300) sample .ram 0x300 ∧
    instrStoresTo (.staAbx 0x0300) sample .ram 0x301 ∧
    ¬ instrStoresTo (.staAbx 0x0300) sample .vram 0x301 :=
  ⟨⟨_, rfl⟩, by
    simp only [instrStoresTo, show (Instr.staAbx 0x0300).mnemonic = .STA from rfl, storesTo,
      show writeDest (resolve (Instr.staAbx 0x0300).operand sample).ea = .ram 0x301 from rfl]
    decide⟩

theorem witness_OnlyStoresReachDevices :
    (∃ t, exec (.ldaAbs 0x2002) sample = .next t) ∧ (Instr.ldaAbs 0x2002).mnemonic ∉ storers ∧
    Instr.aslAcc.operand = .acc ∧
    (∃ t, exec (.incAbs 0x1FFF) sample = .next t) ∧ (Instr.incAbs 0x1FFF).mnemonic ∈ storers ∧
    (resolve (Instr.incAbs 0x1FFF).operand sample).ea.toNat ≤ 0x1FFF ∧
    Instr.pha.mnemonic ∈ storers ∧ Instr.pha.mnemonic ∈ pushers :=
  ⟨⟨_, rfl⟩, by decide, by decide, ⟨_, rfl⟩, by decide, by decide, by decide, by decide⟩

/-- One address of every storage: work RAM, object memory, palette, video RAM, graphics RAM, program
RAM; and one that stores nowhere. -/
theorem witness_WritesStoreTheByte :
    let c := { Cartridge.blank with chrBanks := 0 }
    let s := { video (fun p => { p with v := 0x3F10 }) with cart := c }
    let u := { s with ppu := { s.ppu with v := 0x2C05 } }
    let r := { s with ppu := { s.ppu with v := 0x1FFF } }
    memoriesOk s = true ∧ memoriesOk u = true ∧ memoriesOk r = true ∧
    storesTo 0x1FFF s .ram 0x7FF ∧ storesTo 0x2004 s .oam 0 ∧ storesTo 0x2007 s .pal 0 ∧
    storesTo 0x2007 u .vram 0x405 ∧ storesTo 0x2007 r .chr 0x1FFF ∧
    (storesTo 0x7FFF s .prgRam 0x1FFF ∧ s.cart.prgRam.isSome = true) ∧
    ¬ storesTo 0x4000 s .ram 0 := by
  refine ⟨by decide, by decide, by decide, ⟨rfl, rfl⟩, ?_, ?_, ?_, ?_, ?_, ?_⟩
  · exact .inl ⟨rfl, rfl, rfl⟩
  · exact .inr ⟨rfl, by decide⟩
  · exact .inr ⟨rfl, by decide⟩
  · exact .inr ⟨rfl, by decide⟩
  · exact ⟨⟨rfl, rfl, rfl⟩, rfl⟩
  · exact fun h => h

/-- The ends of the window. -/
theorem witness_WorkRamMirrors :
    (0x0000 : Word).toNat ≤ 0x1FFF ∧ (0x1FFF : Word).toNat ≤ 0x1FFF ∧ sample.ram.wf = true :=
  ⟨by decide, by decide, by decide⟩

/-- The ends of every unmapped range, with and without an answering program RAM. -/
theorem witness_OpenBus :
    [0x4000, 0x4014].all (fun a : Word => 0x4000 ≤ a.toNat ∧ a.toNat ≤ 0x4014) = true ∧
    [0x4018, 0x5FFF].all (fun a : Word => 0x4018 ≤ a.toNat ∧ a.toNat ≤ 0x5FFF) = true ∧
    [0x6000, 0x7FFF].all (fun a : Word => 0x6000 ≤ a.toNat ∧ a.toNat ≤ 0x7FFF) = true ∧
    { Cartridge.blank with prgRam := none }.prgRam = none ∧
    (Mapper.shiftRegister { Mmc1.reset .H with prg := 0x10 }).prgRamEnabled = false ∧
    (0x4015 : Word) ≠ 0x4014 :=
  ⟨by decide, by decide, by decide, by decide, by decide, by decide⟩

theorem witness_RomNeverChanges :
    (∃ t, step sample = .next t) ∧ sample.cart.chrIsRam = false :=
  ⟨next_of_goesOn (by decide +kernel), by decide⟩

/-- The ends of the window and one address of each kind of register. -/
theorem witness_VideoRegisterReads :
    [0x2000, 0x3FFF, 0x2002, 0x3FFA, 0x2004, 0x3FFC, 0x2007].all
      (fun a : Word => 0x2000 ≤ a.toNat ∧ a.toNat ≤ 0x3FFF) = true ∧
    [0x2002, 0x2004, 0x2007, 0x2000].map (fun a : Word => a.toNat % 8) = [2, 4, 7, 0] :=
  ⟨by decide, by decide⟩

/-- All eight registers, with the write toggle both ways. -/
theorem witness_VideoRegisterWrites :
    (List.range 8).map (fun k => (0x3FF8 + BitVec.ofNat 16 k : Word).toNat % 8) = List.range 8 ∧
    (∀ k < 8, 0x2000 ≤ (0x3FF8 + BitVec.ofNat 16 k : Word).toNat ∧
      (0x3FF8 + BitVec.ofNat 16 k : Word).toNat ≤ 0x3FFF) ∧
    sample.ppu.w = false ∧ (wr 0x2005 0 sample).ppu.w = true :=
  by decide

theorem witness_PaletteMirrors :
    0x3F00 ≤ (0x3F00 : VAddr).toNat ∧ 0x3F00 ≤ (0x3FFF : VAddr).toNat :=
  by decide

/-- The ends of the window, in every mirroring mode. -/
theorem witness_NametableMirrors :
    sample.vram.wf = true ∧ 0x2000 ≤ (0x2000 : VAddr).toNat ∧ (0x2000 : VAddr).toNat ≤ 0x3EFF ∧
    0x2000 ≤ (0x3EFF : VAddr).toNat ∧ (0x3EFF : VAddr).toNat ≤ 0x3EFF ∧
    [currentMirroring { Cartridge.blank with mirroring := .H } .fixed,
      currentMirroring { Cartridge.blank with mirroring := .V } .fixed,
      currentMirroring Cartridge.blank (.swap32 0 false .S0),
      currentMirroring Cartridge.blank (.swap32 0 true .S1),
      currentMirroring { Cartridge.blank with mirroring := .F } .fixed] = [.H, .V, .S0, .S1, .F] :=
  by decide

/-- The skip, and the ends of a line and of the frame. -/
theorem witness_RasterAdvance :
    skipsDot { Ppu.reset with scanline := 261, dot := 339, odd := true, mask := 0x08 } ∧
    (¬ skipsDot { Ppu.reset with scanline := 261, dot := 339, odd := true } ∧ (339 : Nat) < 340) ∧
    (340 : Nat) ≤ 340 ∧ (260 : Nat) < 261 ∧ (261 : Nat) ≤ 261 :=
  ⟨⟨rfl, rfl, rfl, rfl⟩, ⟨fun h => Bool.noConfusion h.2.2.2, by decide⟩, by decide⟩

/-- An odd frame with rendering on and an even one. -/
theorem witness_FrameLength :
    let s := video fun p => { p with odd := true, mask := 0x08 }
    (s.ppu.scanline = 0 ∧ s.ppu.dot = 0 ∧ s.ppu.odd = true ∧ s.ppu.rendering = true) ∧
    (State.reset.ppu.scanline = 0 ∧ State.reset.ppu.dot = 0 ∧ State.reset.ppu.odd = false) :=
  by decide

theorem witness_VerticalBlank :
    (let p := (video fun p => { p with scanline := 241, dot := 1 }).ppu
     p.scanline = 241 ∧ p.dot = 1) ∧
    (let p := (video fun p => { p with scanline := 261, dot := 1 }).ppu
     p.scanline = 261 ∧ p.dot = 1 ∧ ¬ (p.scanline = 241 ∧ p.dot = 1)) ∧
    ¬ (State.reset.ppu.scanline = 261 ∧ State.reset.ppu.dot = 1) := by decide

/-- Rendering on at every kind of position: the ends of the visible area, the evaluation with nine
sprites on the line, the last dot of a tile row, the copies of line 261, an idle line; and a pixel
where sprite 0 and the background coincide. -/
theorem witness_RenderingPipeline :
    let at_ (line dot : Nat) : Ppu := { Ppu.reset with mask := 0x1E, scanline := line, dot := dot }
    (at_ 0 0).rendering = true ∧
    (fetchDot (at_ 0 1).dot ∧ fetchDot (at_ 239 256).dot ∧ fetchDot (at_ 261 336).dot ∧
      ¬ fetchDot (at_ 0 257).dot ∧ (at_ 239 256).dot % 8 = 0) ∧
    (spritesCovering { at_ 239 257 with oam := (List.range 9).map fun n => (4 * n, 232) } 239).length
      = 9 ∧
    (tileX 0x7BBF = 31 ∧ tileY 0x7BBF = 29 ∧ fineY 0x7BBF = 7) ∧
    ((at_ 261 280).scanline = 261 ∧ 280 ≤ (at_ 261 304).dot ∧ (at_ 261 304).dot ≤ 304) ∧
    ¬ ((at_ 240 1).scanline ≤ 239 ∨ (at_ 240 1).scanline = 261) ∧
    hitsSpriteZero { at_ 0 1 with
      bgLo := 0x8000, slotCount := 1, slot0IsSpr0 := true
      slots := Vector.replicate 8 ⟨0, 0, 0, 0, 0x80, 0⟩ } 0 = true := by decide

/-- Both ends of the visible area. -/
theorem witness_RenderingDisabled :
    let s := video fun p => { p with scanline := 239, dot := 256 }
    let t := video fun p => { p with scanline := 0, dot := 1 }
    (s.ppu.rendering = false ∧ s.ppu.scanline ≤ 239 ∧ 1 ≤ s.ppu.dot ∧ s.ppu.dot ≤ 256) ∧
    (t.ppu.rendering = false ∧ t.ppu.scanline ≤ 239 ∧ 1 ≤ t.ppu.dot ∧ t.ppu.dot ≤ 256) := by decide

/-- Both modes, with an envelope that starts, one that loops at 0, one that counts, and sweeps that
move, reload and count. -/
theorem witness_FrameRegisterWrite :
    (0x40 : Byte).getLsbD 7 = false ∧ (0x80 : Byte).getLsbD 7 = true ∧
    (⟨true, false, false, 3, 0, 0⟩ : Envelope).start = true ∧
    (let e : Envelope := ⟨false, true, false, 3, 0, 0⟩
     e.start = false ∧ e.div.toNat = 0 ∧ e.decay.toNat = 0) ∧
    (let e : Envelope := ⟨false, true, false, 3, 2, 5⟩
     e.start = false ∧ 0 < e.div.toNat) ∧
    (let p := { Pulse.reset with timerPeriod := 0x7FF, swEn := true, swShift := 1, swNeg := true }
     p.swDiv.toNat = 0 ∧ p.swEn = true ∧ 0 < p.swShift.toNat ∧ 8 ≤ p.timerPeriod.toNat ∧
     sweepSum true p = 0x3FF ∧ sweepSum false p = 0x400) ∧
    { Pulse.reset with swReload := true, swDiv := 1 }.swReload = true ∧
    (0 < ({ Pulse.reset with swDiv := 7 }).swDiv.toNat ∧ Pulse.reset.swReload = false) := by decide

/-- Both half frames of both modes, a quarter frame alone, counters that fall, and clocks that are no
frame; timers at 0 and above. -/
theorem witness_FrameSequencer :
    let u := { Apu.reset with
      parity := true, fc := 14913
      pulse1 := { Pulse.reset with lc := ⟨5, true⟩ }
      triangle := { Triangle.reset with lc := ⟨5, true⟩, lin := 1 } }
    (u.parity = true ∧ u.fc + 1 = 14915 - 1 ∧ u.fcMode = false) ∧
    u.pulse1.env.loop = false ∧ 0 < u.pulse1.lc.len.toNat ∧ u.triangle.linCtrl = false ∧
    0 < u.triangle.lc.len.toNat ∧ 0 < u.triangle.lin.toNat ∧ u.triangle.timer.toNat = 0 ∧
    u.noise.timer.toNat = 0 ∧ u.pulse1.timer.toNat = 0 ∧
    (let w := { u with fc := 18639, fcMode := true }
     w.fc + 1 = 18641 - 1 ∧ w.fcMode = true) ∧
    (7455 + 1 = 7456) ∧ (3727 + 1 = 3728) ∧ Apu.reset.parity = false := by decide

/-- A fetch from the last address with one byte left, looping and not; a full buffer; no byte. The
output unit with its divider at 0 and above, between bits and at the last one, the buffer full and
empty. -/
theorem witness_DeltaReader :
    (let d := { Dmc.reset with curAddr := 0xFFFF, bytesLeft := 1, irqEn := true }
     (d.bufFull = false ∧ d.bytesLeft ≠ 0 ∧ d.loop = false) ∧
     ({ d with loop := true }.loop = true) ∧ ({ d with bufFull := true }.bufFull = true) ∧
     Dmc.reset.bytesLeft = 0) ∧
    (let unit (d : Dmc) : Dmc :=
      let s := { State.reset with apu := { Apu.reset with dmc := d } }
      (dmcReader { s with apu := s.apu.clockFront }).apu.dmc
     (unit Dmc.reset).timer.toNat = 0 ∧ 1 < (unit Dmc.reset).bitsLeft ∧
     0 < (unit { Dmc.reset with timer := 511 }).timer.toNat ∧
     (unit { Dmc.reset with bitsLeft := 1 }).bitsLeft = 1 ∧
     (unit { Dmc.reset with bitsLeft := 1 }).bufFull = false ∧
     (unit { Dmc.reset with bitsLeft := 1, bufFull := true }).bufFull = true) := by decide

theorem witness_MixerRange :
    (⟨0, 0, 0, 0, 0⟩ : ChannelLevels) = ⟨0, 0, 0, 0, 0⟩ := rfl

/-- One address of each of the four registers. -/
theorem witness_SerialRegisterWrites :
    (0x80 : Byte).getLsbD 7 = true ∧ (0x7F : Byte).getLsbD 7 = false ∧
    [0x8000, 0xBFFF, 0xC000, 0xFFFF].map (fun a : Word => a.toNat / 8192 % 4) = [0, 1, 2, 3] :=
  by decide

/-- The ends of the ROM window, with each of the five variants. -/
theorem witness_MapperWindows :
    0x8000 ≤ (0x8000 : Word).toNat ∧ 0x8000 ≤ (0xFFFF : Word).toNat ∧
    (mapped .fixed [] []).mapper = .fixed ∧
    (mapped (.chrSelect 3) [] []).mapper = .chrSelect 3 ∧
    (mapped (.swap16 0xFF) [] []).mapper = .swap16 0xFF ∧
    (mapped (.swap32 7 true .S1) [] []).mapper = .swap32 7 true .S1 ∧
    (mapped (.shiftRegister (Mmc1.reset .V)) [] []).mapper = .shiftRegister (Mmc1.reset .V) ∧
    (0x0000 : VAddr).toNat ≤ 0x1FFF ∧ (0x1FFF : VAddr).toNat ≤ 0x1FFF :=
  by decide

theorem witness_ControllerReads :
    (0x00 : Byte).getLsbD 0 = false ∧ (0x01 : Byte).getLsbD 0 = true := by decide

/-- The pages next to the video registers on both sides. -/
theorem witness_ObjectMemoryCopy :
    ((0x1F : Byte).toNat < 0x20 ∨ 0x40 ≤ (0x1F : Byte).toNat) ∧
    ((0x40 : Byte).toNat < 0x20 ∨ 0x40 ≤ (0x40 : Byte).toNat) ∧ sample.ppu.oam.wf = true :=
  by decide

/-- The header of the minimal image (R625) with a byte replaced: the hypotheses of the five outcomes
about the header, and the body of the two with one. -/
theorem witness_LoadFailures :
    let magic (b3 : Byte) : List Byte := [0x4E, 0x45, 0x53, b3, 2, 1, 0, 0] ++ List.replicate 8 0
    let b (l : List Byte) (k : Nat) : Nat := (l.getD k 0).toNat
    (16 ≤ (magic 0x1A).length ∧ b (magic 0x1A) 3 = 0x1A ∧ b (magic 0x1A) 7 / 4 % 4 ≠ 2) ∧
    b (magic 0x00) 3 ≠ 0x1A ∧
    (0x08 : Byte).toNat / 4 % 4 = 2 ∧
    ¬ (16 + 2 * 16384 + 1 * 8192 ≤ (magic 0x1A).length) ∧
    16 + 2 * 16384 + 1 * 8192 ≤ 40976 ∧
    (0x00 / 16 * 16 + 0x41 / 16 ∉ [0, 1, 2, 3, 7]) ∧
    (0x00 / 16 * 16 + 0x70 / 16 ∈ [0, 1, 2, 3, 7]) := by decide

theorem witness_SnapshotRestores :
    (∃ t, reaches 1 sample t) ∧ (⟨2, sample⟩ : Snapshot).version ≠ snapshotVersion ∧
    cartridgeIdentity State.reset ≠ cartridgeIdentity (mapped .fixed [] []) :=
  ⟨(next_of_goesOn (by decide +kernel)).imp fun t ht => ⟨t, ht, rfl⟩, by decide, by decide⟩

theorem witness_StepKeepsTheInvariant : stateOk sample = true ∧ ∃ t, step sample = .next t :=
  ⟨by decide, next_of_goesOn (by decide +kernel)⟩

theorem witness_ResetHasTheInvariant : stateOk sample = true := by decide

end Sys2Proof.Tests
end

section
/-! PROOFS. The instructions by their templates: `templateOf` says once what each mnemonic does with its
operand, `Template.run` what a template makes of a state, and `exec_eq_run` that `exec` is that for all
256 instructions. A fact about every instruction is then a case split over the eleven templates and a
look at the table. -/

namespace Sys2Proof.Machine

/-- What the instructions of one mnemonic have in common, whatever their format. -/
inductive Template where
  /-- One operand byte is read, and `use` is what becomes of it (R200, R220). -/
  | reads (use : Byte → State → State)
  /-- `value` of the registers is written to the effective address (R200). -/
  | stores (value : State → Byte)
  /-- The operand is read, `result` of it written back, and `use` takes both bytes (R250, R305). -/
  | modifies (result : Byte → State → Byte) (use : Byte → Byte → State → State)
  /-- No operand (R140). -/
  | implied (act : State → State)
  /-- The no-operations, which may read their operand (R297, R315, R316). -/
  | nops
  /-- A branch on a condition on the status byte (R267). -/
  | branches (taken : Byte → Bool)
  /-- `JMP` (R261). -/
  | jumps
  /-- `JSR` (R263). -/
  | calls
  /-- `RTS` (R264). -/
  | returns
  /-- `RTI` (R265). -/
  | trapReturns
  /-- `BRK` (R266). -/
  | traps

/-- The template of a mnemonic. -/
def templateOf : Mnemonic → Template
  | .LDA => .reads fun m s => s.loadReg .A m
  | .LDX => .reads fun m s => s.loadReg .X m
  | .LDY => .reads fun m s => s.loadReg .Y m
  | .LAX => .reads loadAX
  | .AND => .reads fun m s => s.loadReg .A (s.a &&& m)
  | .ORA => .reads fun m s => s.loadReg .A (s.a ||| m)
  | .EOR => .reads fun m s => s.loadReg .A (s.a ^^^ m)
  | .ADC => .reads fun m s => s.adc m
  | .SBC | .USBC => .reads fun m s => s.sbc m
  | .CMP => .reads fun m s => s.compare .A m
  | .CPX => .reads fun m s => s.compare .X m
  | .CPY => .reads fun m s => s.compare .Y m
  | .BIT => .reads bitTest
  | .STA => .stores State.a
  | .STX => .stores State.x
  | .STY => .stores State.y
  | .SAX => .stores fun s => s.a &&& s.x
  | .INC => .modifies incResult incFlags
  | .DEC => .modifies decResult incFlags
  | .ASL => .modifies aslResult aslFlags
  | .LSR => .modifies lsrResult lsrFlags
  | .ROL => .modifies rolResult rolFlags
  | .ROR => .modifies rorResult rorFlags
  | .SLO => .modifies aslResult sloAcc
  | .RLA => .modifies rolResult rlaAcc
  | .SRE => .modifies lsrResult sreAcc
  | .RRA => .modifies rorResult rraAcc
  | .DCP => .modifies decResult dcpFlags
  | .ISC => .modifies incResult iscAcc
  | .TAX => .implied fun s => s.loadReg .X s.a
  | .TAY => .implied fun s => s.loadReg .Y s.a
  | .TXA => .implied fun s => s.loadReg .A s.x
  | .TYA => .implied fun s => s.loadReg .A s.y
  | .TSX => .implied fun s => s.loadReg .X s.sp
  | .TXS => .implied fun s => { s with sp := s.x }
  | .INX => .implied fun s => s.loadReg .X (s.x + 1)
  | .INY => .implied fun s => s.loadReg .Y (s.y + 1)
  | .DEX => .implied fun s => s.loadReg .X (s.x - 1)
  | .DEY => .implied fun s => s.loadReg .Y (s.y - 1)
  | .CLC => .implied fun s => { s with p := putFlag .C false s.p }
  | .SEC => .implied fun s => { s with p := putFlag .C true s.p }
  | .CLI => .implied fun s => { s with p := putFlag .I false s.p }
  | .SEI => .implied fun s => { s with p := putFlag .I true s.p }
  | .CLD => .implied fun s => { s with p := putFlag .D false s.p }
  | .SED => .implied fun s => { s with p := putFlag .D true s.p }
  | .CLV => .implied fun s => { s with p := putFlag .V false s.p }
  | .PHA => .implied fun s => push s.a s
  | .PHP => .implied fun s => push (pushedPHigh s.p) s
  | .PLA => .implied fun s => (afterPull s).loadReg .A (pulled s)
  | .PLP => .implied fun s => { afterPull s with p := pulledP (pulled s) }
  | .NOP | .UNOP | .UNA => .nops
  | .BCC => .branches fun p => !getFlag .C p
  | .BCS => .branches fun p => getFlag .C p
  | .BNE => .branches fun p => !getFlag .Z p
  | .BEQ => .branches fun p => getFlag .Z p
  | .BPL => .branches fun p => !getFlag .N p
  | .BMI => .branches fun p => getFlag .N p
  | .BVC => .branches fun p => !getFlag .V p
  | .BVS => .branches fun p => getFlag .V p
  | .JMP => .jumps
  | .JSR => .calls
  | .RTS => .returns
  | .RTI => .trapReturns
  | .BRK => .traps

/-- The end of an instruction that does not branch: PC behind it, `BASE_CYCLES` and the page penalty
(R25, R131). -/
def endInstr (o : Operand) (op : Byte) (crossed : Bool) (s : State) : State :=
  retire o (baseCycles op + (pagePenalty op && crossed).toNat) s

/-- What an instruction of a template, with its operand and opcode byte, makes of a state. -/
def Template.run (o : Operand) (op : Byte) (s : State) : Template → State
  | .reads use =>
    let r := fetchOperand o s
    endInstr o op r.crossed (use r.value r.st)
  | .stores value =>
    let r := resolve o s
    endInstr o op false (wr r.ea (value s) r.st)
  | .modifies result use =>
    let r := fetchOperand o s
    let v := result r.value r.st
    endInstr o op false (use r.value v (storeOperand o r.ea v r.st))
  | .implied act => endInstr o op false (act s)
  | .nops =>
    let r := resolve o s
    endInstr o op r.crossed (nopRead o r)
  | .branches taken =>
    let target := (resolve o s).ea
    let next := s.pc + 2
    retireTo (if taken s.p then target else next)
      (baseCycles op + branchExtra (taken s.p) target next) s
  | .jumps =>
    let r := resolve o s
    retireTo r.ea (baseCycles op) r.st
  | .calls => retireTo (resolve o s).ea (baseCycles op) (push16 (s.pc + 2) s)
  | .returns => retireTo (pulled16 s + 1) (baseCycles op) (afterPull16 s)
  | .trapReturns => returnFromTrap (baseCycles op) s
  | .traps => enterTrap .brk (s.pc + 2) (baseCycles op) s

/-- Every instruction runs the template of its mnemonic: each arm of `exec` unfolds to it. -/
theorem exec_eq_run (i : Instr) (s : State) :
    exec i s = .next ((templateOf i.mnemonic).run i.operand i.opcode s) := by
  cases i <;> dsimp only [Instr.opcode] <;> rfl

theorem exec_next {i : Instr} {s t : State} (h : exec i s = .next t) :
    t = (templateOf i.mnemonic).run i.operand i.opcode s := by
  rw [exec_eq_run] at h
  exact (Host.Outcome.next.inj h).symm

/-- Only the shifts and rotates have an accumulator format (R141, R250). -/
theorem shift_of_operand_acc {i : Instr} (h : i.operand = .acc) :
    i.mnemonic ∈ [.ASL, .LSR, .ROL, .ROR] := by
  cases i
  case aslAcc | lsrAcc | rolAcc | rorAcc => decide
  all_goals cases h

end Sys2Proof.Machine
end

section
/-! PROOFS. What every instruction keeps: a fact that one bus read, one bus write and the book-keeping of
an instruction keep (`BusInvariant`) is kept by every instruction whose template keeps it
(`Template.keeps`), hence by the CPU part of a step. -/

namespace Sys2Proof.Machine

/-- `t` is `s` but for `pc`, `cyc` and `bus_latch`. -/
def SameButProgress (s t : State) : Prop :=
  t = { s with pc := t.pc, cyc := t.cyc, busLatch := t.busLatch }

/-- `t` is `s` but for the registers of the CPU, its counters and lines, and `bus_latch`. -/
def SameButCpu (s t : State) : Prop :=
  t = { s with
    a := t.a, x := t.x, y := t.y, sp := t.sp, pc := t.pc, p := t.p, cyc := t.cyc
    nmiPending := t.nmiPending, stall := t.stall, busLatch := t.busLatch }

theorem SameButProgress.sameButCpu {s t : State} (h : SameButProgress s t) : SameButCpu s t := by
  unfold SameButProgress at h
  rw [h]
  rfl

/-- A fact that no bus access and no progress of the program changes. -/
structure BusInvariant (P : State → Prop) : Prop where
  progress : ∀ {s t}, P s → SameButProgress s t → P t
  read : ∀ {s} a, P s → P (afterRd a s)
  write : ∀ {s} a v, P s → P (wr a v s)

/-- The part of a template that is neither bus access nor progress keeps the fact `P`. -/
def Template.keeps (P : State → Prop) : Template → Prop
  | .reads use => ∀ m s, P s → P (use m s)
  | .modifies _ use => ∀ m r s, P s → P (use m r s)
  | .implied act => ∀ s, P s → P (act s)
  | .calls => ∀ w s, P s → P (push16 w s)
  | .returns => ∀ s, P s → P (afterPull16 s)
  | .trapReturns => ∀ n s, P s → P (returnFromTrap n s)
  | .traps => ∀ w n s, P s → P (enterTrap .brk w n s)
  | .stores _ | .nops | .branches _ | .jumps => True

namespace BusInvariant

variable {P : State → Prop} (h : BusInvariant P) {s t : State}
include h

theorem endInstr (o : Operand) (op : Byte) (crossed : Bool) (hs : P s) :
    P (endInstr o op crossed s) := h.progress hs rfl

theorem retireTo (w : Word) (n : Nat) (hs : P s) : P (retireTo w n s) := h.progress hs rfl

theorem resolve (o : Operand) (hs : P s) : P (resolve o s).st := by
  obtain ⟨b, e⟩ | ⟨w, -, e⟩ := resolve_st o s
  · exact h.progress hs (by rw [e]; rfl)
  · rw [e]
    exact h.read _ (h.read _ hs)

theorem fetchOperand (o : Operand) (hs : P s) : P (fetchOperand o s).st := by
  cases o
  case acc | imm => exact hs
  all_goals exact h.read _ (h.resolve _ hs)

theorem nopRead (o : Operand) (hs : P s) : P (nopRead o (Machine.resolve o s)) := by
  unfold Machine.nopRead
  split
  · exact h.read _ (h.resolve o hs)
  · exact h.resolve o hs

/-- A template run keeps what its own part keeps. The accumulator format stores to A. -/
theorem run {τ : Template} (hτ : τ.keeps P) {o : Operand} (ho : o = .acc → ∀ v {s}, P s → P { s with a := v })
    (op : Byte) (hs : P s) : P (τ.run o op s) := by
  have store (ea : Word) (v : Byte) {u : State} (hu : P u) : P (storeOperand o ea v u) := by
    cases o
    case acc => exact ho rfl v hu
    all_goals exact h.write ea v hu
  cases τ with
  | reads use => exact h.endInstr _ _ _ (hτ _ _ (h.fetchOperand o hs))
  | stores value => exact h.endInstr _ _ _ (h.write _ _ (h.resolve o hs))
  | modifies result use => exact h.endInstr _ _ _ (hτ _ _ _ (store _ _ (h.fetchOperand o hs)))
  | implied act => exact h.endInstr _ _ _ (hτ _ hs)
  | nops => exact h.endInstr _ _ _ (h.nopRead o hs)
  | branches taken => exact h.retireTo _ _ hs
  | jumps => exact h.retireTo _ _ (h.resolve o hs)
  | calls => exact h.retireTo _ _ (hτ _ _ hs)
  | returns => exact h.retireTo _ _ (hτ _ hs)
  | trapReturns => exact hτ _ _ hs
  | traps => exact hτ _ _ _ hs

theorem fetchInstr (hs : P s) : P (fetchInstr s).st := by
  unfold Machine.fetchInstr
  have h1 := h.read s.pc hs
  have h2 := h.read (s.pc + 1) h1
  split
  · exact h1
  · exact h2
  · exact h.read _ h2

end BusInvariant

/-! ### What the instructions write, by the spec's lists -/

/-- The flags of `q` are those of `p` but for the flags `l`. -/
def SameButFlags (l : List Flag) (p q : Byte) : Prop := ∀ f, f ∉ l → getFlag f q = getFlag f p

theorem putFlag_sameBut (g : Flag) (b : Bool) (p : Byte) : SameButFlags [g] p (putFlag g b p) := by
  intro f hf
  simp_all

theorem setZN_sameBut (v p : Byte) : SameButFlags [.Z, .N] p (setZN v p) := by
  intro f hf
  simp_all

theorem cmpFlags_sameBut (r m p : Byte) : SameButFlags [.C, .Z, .N] p (cmpFlags r m p) := by
  intro f hf
  simp_all [cmpFlags]

theorem bitFlags_sameBut (a m p : Byte) : SameButFlags [.Z, .N, .V] p (bitFlags a m p) := by
  intro f hf
  simp_all [bitFlags]

theorem adcFlags_sameBut (a m p : Byte) : SameButFlags [.C, .V, .Z, .N] p (adcFlags a m p) := by
  intro f hf
  simp_all [adcFlags]

/-- The fact `P` survives a write of each register and flag that the spec lists for the mnemonic `m`
(R21 to R28). -/
structure WritesKeep (m : Mnemonic) (P : State → Prop) : Prop where
  a : m ∈ writersOfA → ∀ {s} v, P s → P { s with a := v }
  x : m ∈ writersOfX → ∀ {s} v, P s → P { s with x := v }
  y : m ∈ writersOfY → ∀ {s} v, P s → P { s with y := v }
  sp : m ∈ writersOfS → ∀ {s} v, P s → P { s with sp := v }
  flags : ∀ {l}, (∀ f ∈ l, m ∈ writersOfFlag f) → ∀ {s q}, SameButFlags l s.p q → P s →
    P { s with p := q }
  pulled : m ∈ [.PLP, .RTI] → ∀ {s} b, P s → P { s with p := pulledP b }

namespace WritesKeep

variable {m : Mnemonic} {P : State → Prop} (w : WritesKeep m P) (h : BusInvariant P) {s : State}
include w

theorem setZN (hm : ∀ f ∈ [.Z, .N], m ∈ writersOfFlag f) (v : Byte) (hs : P s) :
    P { s with p := setZN v s.p } := w.flags hm (setZN_sameBut v s.p) hs

theorem putFlag {g : Flag} (hm : ∀ f ∈ [g], m ∈ writersOfFlag f) (b : Bool) (hs : P s) :
    P { s with p := putFlag g b s.p } := w.flags hm (putFlag_sameBut g b s.p) hs

theorem loadA (hm : m ∈ writersOfA) (hf : ∀ f ∈ [.Z, .N], m ∈ writersOfFlag f) (v : Byte) (hs : P s) :
    P (s.loadReg .A v) := w.setZN hf v (w.a hm v hs)

theorem loadX (hm : m ∈ writersOfX) (hf : ∀ f ∈ [.Z, .N], m ∈ writersOfFlag f) (v : Byte) (hs : P s) :
    P (s.loadReg .X v) := w.setZN hf v (w.x hm v hs)

theorem loadY (hm : m ∈ writersOfY) (hf : ∀ f ∈ [.Z, .N], m ∈ writersOfFlag f) (v : Byte) (hs : P s) :
    P (s.loadReg .Y v) := w.setZN hf v (w.y hm v hs)

theorem adc (hm : m ∈ writersOfA) (hf : ∀ f ∈ [.C, .V, .Z, .N], m ∈ writersOfFlag f) (v : Byte)
    (hs : P s) : P (s.adc v) := w.a hm _ (w.flags hf (adcFlags_sameBut s.a v s.p) hs)

theorem compare (hf : ∀ f ∈ [.C, .Z, .N], m ∈ writersOfFlag f) (r : Reg) (v : Byte) (hs : P s) :
    P (s.compare r v) := w.flags hf (cmpFlags_sameBut (s.reg r) v s.p) hs

theorem shiftFlags (hc : ∀ f ∈ [.C], m ∈ writersOfFlag f) (hf : ∀ f ∈ [.Z, .N], m ∈ writersOfFlag f)
    (c : Bool) (r : Byte) (hs : P s) : P (shiftFlags c r s) := w.setZN hf r (w.putFlag hc c hs)

include h

theorem push (hm : m ∈ writersOfS) (v : Byte) (hs : P s) : P (push v s) :=
  w.sp hm _ (h.write (stackAddr s.sp) v hs)

theorem afterPull (hm : m ∈ writersOfS) (hs : P s) : P (afterPull s) := h.read _ (w.sp hm _ hs)

theorem push16 (hm : m ∈ writersOfS) (v : Word) (hs : P s) : P (push16 v s) :=
  w.push h hm _ (w.push h hm _ hs)

theorem afterPull16 (hm : m ∈ writersOfS) (hs : P s) : P (afterPull16 s) :=
  w.afterPull h hm (w.afterPull h hm hs)

theorem enterTrap (hm : m ∈ writersOfS) (hf : ∀ f ∈ [.I], m ∈ writersOfFlag f) (k : TrapKind) (v : Word)
    (n : Nat) (hs : P s) : P (enterTrap k v n s) := by
  let u := Machine.push (k.pushedP s.p) (Machine.push16 v s)
  have pushed : P u := w.push h hm (k.pushedP s.p) (w.push16 h hm v hs)
  have masked : P { u with p := Machine.putFlag .I true u.p } := w.putFlag hf true pushed
  exact h.retireTo _ n (h.read (k.vector + 1) (h.read k.vector masked))

theorem returnFromTrap (hm : m ∈ writersOfS) (hp : m ∈ [.PLP, .RTI]) (n : Nat) (hs : P s) :
    P (returnFromTrap n s) := by
  have restored : P { Machine.afterPull s with p := pulledP (Machine.pulled s) } :=
    w.pulled hp _ (w.afterPull h hm hs)
  exact h.retireTo _ n (w.afterPull16 h hm restored)

end WritesKeep

/-- The table of the instructions writes what the spec's lists say, and nothing else: an entry keeps
every fact that survives the writes listed for it. -/
theorem templateOf_keeps {P : State → Prop} (h : BusInvariant P) {m : Mnemonic} (w : WritesKeep m P) :
    (templateOf m).keeps P := by
  cases m
  case LDA | AND | ORA | EOR => exact fun _ _ => w.loadA (by decide) (by decide) _
  case LDX => exact fun _ _ => w.loadX (by decide) (by decide) _
  case LDY => exact fun _ _ => w.loadY (by decide) (by decide) _
  case LAX => exact fun v _ hs => w.setZN (by decide) v (w.x (by decide) v (w.a (by decide) v hs))
  case ADC | SBC | USBC => exact fun _ _ => w.adc (by decide) (by decide) _
  case CMP | CPX | CPY => exact fun _ _ => w.compare (by decide) _ _
  case BIT => exact fun _ _ => w.flags (by decide) (bitFlags_sameBut _ _ _)
  case INC | DEC => exact fun _ _ _ => w.setZN (by decide) _
  case ASL | LSR | ROL | ROR => exact fun _ _ _ => w.shiftFlags (by decide) (by decide) _ _
  case SLO | RLA | SRE =>
    exact fun _ _ _ hs => w.loadA (by decide) (by decide) _ (w.putFlag (by decide) _ hs)
  case RRA => exact fun _ _ _ hs => w.adc (by decide) (by decide) _ (w.putFlag (by decide) _ hs)
  case DCP => exact fun _ _ _ => w.compare (by decide) _ _
  case ISC => exact fun _ _ _ => w.adc (by decide) (by decide) _
  case TXA | TYA => exact fun _ => w.loadA (by decide) (by decide) _
  case TAX | TSX | INX | DEX => exact fun _ => w.loadX (by decide) (by decide) _
  case TAY | INY | DEY => exact fun _ => w.loadY (by decide) (by decide) _
  case TXS => exact fun _ => w.sp (by decide) _
  case CLC | SEC | CLI | SEI | CLD | SED | CLV => exact fun _ => w.putFlag (by decide) _
  case PHA | PHP => exact fun _ => w.push h (by decide) _
  case PLA => exact fun _ hs => w.loadA (by decide) (by decide) _ (w.afterPull h (by decide) hs)
  case PLP => exact fun _ hs => w.pulled (by decide) _ (w.afterPull h (by decide) hs)
  case JSR => exact fun v _ => w.push16 h (by decide) v
  case RTS => exact fun _ => w.afterPull16 h (by decide)
  case RTI => exact fun n _ => w.returnFromTrap h (by decide) (by decide) n
  case BRK => exact fun v n _ => w.enterTrap h (by decide) (by decide) .brk v n
  case STA | STX | STY | SAX | NOP | UNOP | UNA | JMP | BCC | BCS | BEQ | BNE | BMI | BPL | BVC | BVS =>
    exact trivial

/-! ### Instructions and steps -/

namespace BusInvariant

variable {P : State → Prop} (h : BusInvariant P) {s t : State}
include h

/-- An instruction keeps a fact that survives the writes listed for its mnemonic. -/
theorem exec {i : Instr} (w : WritesKeep i.mnemonic P) (hs : P s) (ht : exec i s = .next t) : P t := by
  have shifts : ∀ m ∈ [.ASL, .LSR, .ROL, .ROR], m ∈ writersOfA := by decide
  rw [exec_next ht]
  exact h.run (templateOf_keeps h w) (fun ho v _ => w.a (shifts _ (shift_of_operand_acc ho)) v) _ hs

/-- An interrupt writes what `BRK` writes, and its pending bit. -/
theorem interrupt (w : WritesKeep .BRK P) (hnmi : ∀ {s} b, P s → P { s with nmiPending := b })
    (k : TrapKind) (hs : P s) : P (interrupt k s) :=
  w.enterTrap h (by decide) (by decide) k _ _ (hnmi _ hs)

theorem cpuAdvance (w : ∀ m, WritesKeep m P) (hnmi : ∀ {s} b, P s → P { s with nmiPending := b })
    (hs : P s) (ht : cpuAdvance s = .next t) : P t := by
  unfold Machine.cpuAdvance at ht
  split at ht
  · cases ht
    exact h.interrupt (w .BRK) hnmi _ hs
  · exact h.exec (w _) (h.fetchInstr hs) ht

end BusInvariant

/-- A fact about the devices and their memories: no register of the CPU can change it, and no bus
access does. -/
structure DeviceInvariant (P : State → Prop) : Prop where
  cpu : ∀ {s t}, P s → SameButCpu s t → P t
  read : ∀ {s} a, P s → P (afterRd a s)
  write : ∀ {s} a v, P s → P (wr a v s)

namespace DeviceInvariant

variable {P : State → Prop} (h : DeviceInvariant P) {s t : State}
include h

theorem busInvariant : BusInvariant P where
  progress hs e := h.cpu hs e.sameButCpu
  read := h.read
  write := h.write

theorem writesKeep (m : Mnemonic) : WritesKeep m P where
  a _ _ _ hs := h.cpu hs rfl
  x _ _ _ hs := h.cpu hs rfl
  y _ _ _ hs := h.cpu hs rfl
  sp _ _ _ hs := h.cpu hs rfl
  flags _ _ _ _ hs := h.cpu hs rfl
  pulled _ _ _ hs := h.cpu hs rfl

/-- A fact about the devices that their passes keep, a step keeps. -/
theorem step (hpass : ∀ {s}, P s → P (devicePass s)) (hs : P s) (ht : step s = .next t) : P t :=
  step_keeps (fun _ _ => h.busInvariant.cpuAdvance h.writesKeep (fun _ hs => h.cpu hs rfl))
    (fun _ hs => h.cpu hs rfl) (fun _ => hpass) hs ht

end DeviceInvariant

/-! ### Facts about one register -/

/-- A fact about something that no bus access and no progress of the program changes. -/
theorem busInvariant_of_kept {α : Type} (g : State → α) (Q : α → Prop)
    (hprogress : ∀ {s t}, SameButProgress s t → g t = g s) (hread : ∀ a s, g (afterRd a s) = g s)
    (hwrite : ∀ a v s, g (wr a v s) = g s) : BusInvariant (fun s => Q (g s)) where
  progress hs e := (congrArg Q (hprogress e)).mpr hs
  read a hs := (congrArg Q (hread a _)).mpr hs
  write a v hs := (congrArg Q (hwrite a v _)).mpr hs

theorem busInvariant_a (Q : Byte → Prop) : BusInvariant (fun s => Q s.a) :=
  busInvariant_of_kept State.a Q (fun e => by rw [e]) afterRd_a wr_a

theorem busInvariant_x (Q : Byte → Prop) : BusInvariant (fun s => Q s.x) :=
  busInvariant_of_kept State.x Q (fun e => by rw [e]) afterRd_x wr_x

theorem busInvariant_y (Q : Byte → Prop) : BusInvariant (fun s => Q s.y) :=
  busInvariant_of_kept State.y Q (fun e => by rw [e]) afterRd_y wr_y

theorem busInvariant_sp (Q : Byte → Prop) : BusInvariant (fun s => Q s.sp) :=
  busInvariant_of_kept State.sp Q (fun e => by rw [e]) afterRd_sp wr_sp

theorem busInvariant_p (Q : Byte → Prop) : BusInvariant (fun s => Q s.p) :=
  busInvariant_of_kept State.p Q (fun e => by rw [e]) afterRd_p wr_p

/-- A, which the shifts and rotates write in the accumulator format only (R250). -/
theorem exec_shift_a {i : Instr} {s t : State} (hi : i.mnemonic ∈ [.ASL, .LSR, .ROL, .ROR])
    (ho : i.operand ≠ .acc) (ht : exec i s = .next t) : t.a = s.a := by
  have keeps : (templateOf i.mnemonic).keeps (fun t => t.a = s.a) := by
    simp only [List.mem_cons, List.not_mem_nil, or_false] at hi
    obtain hm | hm | hm | hm := hi <;> rw [hm] <;> exact fun _ _ _ hs => hs
  rw [exec_next ht]
  exact (busInvariant_a (· = s.a)).run keeps (fun h => absurd h ho) _ rfl

/-- Settles O30: a register has its value as a fact that survives every write listed for a mnemonic
that is none of its writers. -/
theorem onlyTheNamedInstructionsWriteARegister :
    Obligations.OnlyTheNamedInstructionsWriteARegister := by
  intro i s t ht
  refine ⟨fun hm => ?_, fun hi ho => exec_shift_a hi ho ht, fun hm => ?_, fun hm => ?_, fun hm => ?_⟩
  · exact (busInvariant_a (· = s.a)).exec
      ⟨fun h => absurd h hm, fun _ _ _ => id, fun _ _ _ => id, fun _ _ _ => id, fun _ _ _ _ => id,
        fun _ _ _ => id⟩ rfl ht
  · exact (busInvariant_x (· = s.x)).exec
      ⟨fun _ _ _ => id, fun h => absurd h hm, fun _ _ _ => id, fun _ _ _ => id, fun _ _ _ _ => id,
        fun _ _ _ => id⟩ rfl ht
  · exact (busInvariant_y (· = s.y)).exec
      ⟨fun _ _ _ => id, fun _ _ _ => id, fun h => absurd h hm, fun _ _ _ => id, fun _ _ _ _ => id,
        fun _ _ _ => id⟩ rfl ht
  · exact (busInvariant_sp (· = s.sp)).exec
      ⟨fun _ _ _ => id, fun _ _ _ => id, fun _ _ _ => id, fun h => absurd h hm, fun _ _ _ _ => id,
        fun _ _ _ => id⟩ rfl ht

/-! ### The flags -/

theorem pOk_iff (p : Byte) : pOk p = true ↔ getFlag .U p = true ∧ getFlag .B p = false := by
  simp [pOk]

@[simp] theorem pOk_pulledP (m : Byte) : pOk (pulledP m) = true := by
  simp [pOk_iff]

/-- The spec lists no writer of B and U, so every listed write leaves them (R28). -/
theorem pOk_of_sameBut {l : List Flag} {m : Mnemonic} (hl : ∀ f ∈ l, m ∈ writersOfFlag f) {p q : Byte}
    (h : SameButFlags l p q) (hp : pOk p = true) : pOk q = true := by
  rw [pOk_iff] at hp ⊢
  rw [h .U fun hU => List.not_mem_nil (hl .U hU), h .B fun hB => List.not_mem_nil (hl .B hB)]
  exact hp

theorem pOk_writesKeep (m : Mnemonic) : WritesKeep m (fun s => pOk s.p = true) :=
  ⟨fun _ _ _ => id, fun _ _ _ => id, fun _ _ _ => id, fun _ _ _ => id,
    fun hl _ _ => pOk_of_sameBut hl, fun _ _ _ _ => pOk_pulledP _⟩

/-- Every step leaves U set and B clear (R28). -/
theorem pOk_step {s t : State} (hs : pOk s.p = true) (ht : step s = .next t) : pOk t.p = true :=
  step_keeps (P := fun s => pOk s.p = true)
    (fun _ _ => (busInvariant_p (pOk · = true)).cpuAdvance pOk_writesKeep fun _ => id) (fun _ => id)
    (fun s hs => by rwa [devicePass_p]) hs ht

/-- A pulled status byte changes no flag but the six that are storage, whose list of writers has the
two instructions (R27, R28). -/
theorem getFlag_pulledP_of_not_writer {m : Mnemonic} (hm : m ∈ [.PLP, .RTI]) {f : Flag}
    (hf : m ∉ writersOfFlag f) {p : Byte} (hp : pOk p = true) (b : Byte) :
    getFlag f (pulledP b) = getFlag f p := by
  have writes : ∀ m ∈ [.PLP, .RTI], ∀ f, f = .B ∨ f = .U ∨ m ∈ writersOfFlag f := by
    intro m hm f
    cases f <;> revert m <;> decide
  rw [pOk_iff] at hp
  obtain rfl | rfl | h := writes m hm f
  · simp [hp.2]
  · simp [hp.1]
  · exact absurd h hf

/-- Settles O31: a flag's value, together with U set and B clear, survives every write listed for a
mnemonic that is none of its writers. -/
theorem onlyTheNamedInstructionsWriteAFlag : Obligations.OnlyTheNamedInstructionsWriteAFlag := by
  intro i s t f hp ht hf
  have kept : WritesKeep i.mnemonic (fun t => pOk t.p = true ∧ getFlag f t.p = getFlag f s.p) :=
    ⟨fun _ _ _ => id, fun _ _ _ => id, fun _ _ _ => id, fun _ _ _ => id,
      fun hl _ _ e hs => ⟨pOk_of_sameBut hl e hs.1, (e f fun h => hf (hl f h)).trans hs.2⟩,
      fun hm _ b hs => ⟨pOk_pulledP b, getFlag_pulledP_of_not_writer hm hf hp b⟩⟩
  exact ((busInvariant_p fun p => pOk p = true ∧ getFlag f p = getFlag f s.p).exec kept ⟨hp, rfl⟩ ht).2

end Sys2Proof.Machine
end

section
/-! PROOFS. What a tick of the video unit and a clock of the audio unit leave alone, and the ranges of
their counters. -/

namespace Sys2Proof.Machine

/-! ### The video unit -/

/-- The video unit `q` is `p` after acting on a dot, before the raster advances: the position, the mask
register and object memory are those of `p`, and at most eight sprites are held if they were. -/
structure ActedOnDot (p q : Ppu) : Prop where
  scanline : q.scanline = p.scanline
  dot : q.dot = p.dot
  odd : q.odd = p.odd
  mask : q.mask = p.mask
  oam : q.oam = p.oam
  sprites : p.slotCount ≤ 8 → q.slotCount ≤ 8

theorem ActedOnDot.refl (p : Ppu) : ActedOnDot p p := ⟨rfl, rfl, rfl, rfl, rfl, id⟩

theorem ActedOnDot.trans {p q r : Ppu} (h : ActedOnDot p q) (h' : ActedOnDot q r) :
    ActedOnDot p r where
  scanline := h'.scanline.trans h.scanline
  dot := h'.dot.trans h.dot
  odd := h'.odd.trans h.odd
  mask := h'.mask.trans h.mask
  oam := h'.oam.trans h.oam
  sprites := h'.sprites ∘ h.sprites

theorem clearFlags_acted (p : Ppu) : ActedOnDot p p.clearFlags := by
  unfold Ppu.clearFlags
  split <;> exact ⟨rfl, rfl, rfl, rfl, rfl, id⟩

theorem emitStep_acted (p : Ppu) : ActedOnDot p p.emitStep := by
  unfold Ppu.emitStep
  split <;> exact ⟨rfl, rfl, rfl, rfl, rfl, id⟩

theorem bgStep_acted (d : Nat) (s : State) : ActedOnDot s.ppu (bgStep d s).ppu := by
  unfold bgStep
  simp only
  split <;> exact ⟨rfl, rfl, rfl, rfl, rfl, id⟩

theorem bgPhase_acted (s : State) : ActedOnDot s.ppu (bgPhase s).ppu := by
  unfold bgPhase
  simp only
  split
  · exact bgStep_acted _ s
  · exact .refl _

theorem incYPhase_acted (p : Ppu) : ActedOnDot p p.incYPhase := by
  unfold Ppu.incYPhase
  split <;> exact ⟨rfl, rfl, rfl, rfl, rfl, id⟩

/-- A sprite is put into a slot only while fewer than eight are held (R487). -/
theorem evalSprites_acted (s : State) (line fuel n : Nat) (p : Ppu) :
    ActedOnDot p (evalSprites s line fuel n p) := by
  induction fuel generalizing n p with
  | zero => exact .refl p
  | succ fuel ih =>
    unfold evalSprites
    split
    · split
      · next hlt =>
        refine .trans ?_ (ih _ _)
        exact ⟨rfl, rfl, rfl, rfl, rfl, fun _ => hlt⟩
      · exact ⟨rfl, rfl, rfl, rfl, rfl, id⟩
    · exact ih _ _

theorem spriteStep_acted (line : Nat) (s : State) : ActedOnDot s.ppu (spriteStep line s).ppu := by
  have cleared : ActedOnDot s.ppu { s.ppu with slotCount := 0, slot0IsSpr0 := false } :=
    ⟨rfl, rfl, rfl, rfl, rfl, fun _ => Nat.zero_le 8⟩
  unfold spriteStep
  simp only
  split
  · exact cleared
  · exact cleared.trans (evalSprites_acted _ _ _ _ _)

theorem spritePhase_acted (s : State) : ActedOnDot s.ppu (spritePhase s).ppu := by
  unfold spritePhase
  split
  · refine .trans ?_ (spriteStep_acted _ _)
    exact ⟨rfl, rfl, rfl, rfl, rfl, id⟩
  · exact .refl _

theorem copyYPhase_acted (p : Ppu) : ActedOnDot p p.copyYPhase := by
  unfold Ppu.copyYPhase
  split <;> exact ⟨rfl, rfl, rfl, rfl, rfl, id⟩

theorem renderPhase_acted (s : State) : ActedOnDot s.ppu (renderPhase s).ppu := by
  unfold renderPhase
  split
  · let fetched := bgPhase s
    let moved := { fetched with ppu := fetched.ppu.incYPhase }
    exact (bgPhase_acted s).trans <| (incYPhase_acted fetched.ppu).trans <|
      (spritePhase_acted moved).trans (copyYPhase_acted _)
  · exact .refl _

theorem vblankPhase_acted (s : State) : ActedOnDot s.ppu (vblankPhase s).ppu := by
  unfold vblankPhase
  split <;> exact ⟨rfl, rfl, rfl, rfl, rfl, id⟩

/-- A tick acts on the dot, then advances (R481). -/
theorem tick_ppu (s : State) : ∃ q, ActedOnDot s.ppu q ∧ (tick s).ppu = q.advance := by
  let drawn := { s with ppu := s.ppu.clearFlags.emitStep }
  exact ⟨_, (clearFlags_acted s.ppu).trans <| (emitStep_acted _).trans <|
    (renderPhase_acted drawn).trans (vblankPhase_acted _), rfl⟩

theorem skipsDot_of_acted {p q : Ppu} (h : ActedOnDot p q) : skipsDot q ↔ skipsDot p := by
  simp only [skipsDot, Ppu.rendering, h.scanline, h.dot, h.odd, h.mask]

/-! ### `advance()` (R482) -/

theorem advance_of_skipsDot {p : Ppu} (h : skipsDot p) :
    p.advance = { p with scanline := 0, dot := 0, odd := false } := by
  obtain ⟨h1, h2, h3, h4⟩ := h
  exact if_pos ⟨h1, h2, h3, .inl h4⟩

theorem advance_of_not_skipsDot {p : Ppu} (h : ¬ skipsDot p) :
    p.advance =
      if p.dot < 340 then { p with dot := p.dot + 1 }
      else if p.scanline < 261 then { p with dot := 0, scanline := p.scanline + 1 }
      else { p with dot := 0, scanline := 0, odd := !p.odd } :=
  if_neg fun ⟨h1, h2, h3, h4⟩ => h ⟨h1, h2, h3, h4.resolve_right (by decide)⟩

@[simp] theorem advance_oam (p : Ppu) : p.advance.oam = p.oam := by
  unfold Ppu.advance
  (repeat' split) <;> rfl

@[simp] theorem advance_slotCount (p : Ppu) : p.advance.slotCount = p.slotCount := by
  unfold Ppu.advance
  (repeat' split) <;> rfl

theorem rasterOk_iff (p : Ppu) : rasterOk p = true ↔ p.scanline ≤ 261 ∧ p.dot ≤ 340 := by
  simp [rasterOk]

theorem rasterOk_advance {p : Ppu} (h : rasterOk p = true) : rasterOk p.advance = true := by
  obtain ⟨hs, hd⟩ := (rasterOk_iff p).1 h
  by_cases hskip : skipsDot p
  · rw [advance_of_skipsDot hskip]
    rfl
  · rw [advance_of_not_skipsDot hskip, rasterOk_iff]
    split
    · exact ⟨hs, by simp only; omega⟩
    · split
      · exact ⟨by simp only; omega, Nat.zero_le _⟩
      · exact ⟨Nat.zero_le _, Nat.zero_le _⟩

/-- Settles O42: every phase of a tick leaves the position to `advance()`. -/
theorem rasterAdvance : Obligations.RasterAdvance := by
  intro s p t
  obtain ⟨q, hq, ht⟩ := tick_ppu s
  have hdot : q.dot = p.dot := hq.dot
  have hline : q.scanline = p.scanline := hq.scanline
  have hodd : q.odd = p.odd := hq.odd
  have hskip : skipsDot q ↔ skipsDot p := skipsDot_of_acted hq
  have moved (h : ¬ skipsDot p) : t = _ := ht.trans (advance_of_not_skipsDot (hskip.not.2 h))
  have not_last_dot (h : 340 ≤ p.dot) : ¬ skipsDot p := fun ⟨_, h', _⟩ => by omega
  refine ⟨fun h => ?_, fun h hd => ?_, fun hd hs => ?_, fun hd hs => ?_⟩
  · rw [show t = _ from ht, advance_of_skipsDot (hskip.2 h)]
    exact ⟨rfl, rfl, rfl⟩
  · rw [moved h, if_pos (by omega)]
    exact ⟨hline, congrArg (· + 1) hdot, hodd⟩
  · rw [moved (not_last_dot hd), if_neg (by omega), if_pos (by omega)]
    exact ⟨congrArg (· + 1) hline, rfl, hodd⟩
  · rw [moved (not_last_dot hd), if_neg (by omega), if_neg (by omega)]
    exact ⟨rfl, rfl, congrArg (! ·) hodd⟩

/-! ### The audio unit -/

theorem audioOk_iff (u : Apu) : audioOk u = true ↔
    u.noise.lfsr ≠ 0 ∧ (1 ≤ u.dmc.bitsLeft ∧ u.dmc.bitsLeft ≤ 8) ∧ u.fc < u.period := by
  simp [audioOk, and_assoc]

theorem period_congr {u w : Apu} (h : w.fcMode = u.fcMode) : w.period = u.period := by
  rw [Apu.period, h]
  rfl

/-- `audioOk` sees the shift register of the noise channel, the bit count of the delta channel and the
frame sequencer only. -/
theorem audioOk_of_same {u w : Apu} (h : audioOk u = true) (hl : w.noise.lfsr = u.noise.lfsr)
    (hb : w.dmc.bitsLeft = u.dmc.bitsLeft) (hf : w.fc = u.fc) (hm : w.fcMode = u.fcMode) :
    audioOk w = true := by
  rw [audioOk_iff] at h ⊢
  rwa [hl, hb, hf, period_congr hm]

theorem period_pos (u : Apu) : 0 < u.period := by
  unfold Apu.period
  split <;> decide

/-- The shift register does not become 0: its bits move down, and a lone bit 0 comes in at the top
(R570). -/
theorem nextLfsr_ne_zero {n : Noise} (h : n.lfsr ≠ 0) : n.nextLfsr ≠ 0 := by
  intro h0
  have bit (i : Nat) : n.nextLfsr.getLsbD i = false := by simp [h0]
  have high (i : Nat) (hi : i < 14) : n.lfsr.getLsbD (i + 1) = false := by
    have := bit i
    simp [Noise.nextLfsr, Nat.add_comm 1 i] at this
    exact this.1
  have low : n.lfsr.getLsbD 0 = false := by
    have := bit 14
    simp only [Noise.nextLfsr, high 0 (by decide), high 5 (by decide)] at this
    simpa using this
  apply h
  refine BitVec.eq_of_getLsbD_eq fun i hi => ?_
  cases i with
  | zero => simpa using low
  | succ i => simpa using high i (by omega)

/-- The bit count comes from 1..8 and is reloaded when it runs out (R573). -/
theorem outputClock_bitsLeft {d : Dmc} (h : 1 ≤ d.bitsLeft ∧ d.bitsLeft ≤ 8) :
    1 ≤ d.outputClock.bitsLeft ∧ d.outputClock.bitsLeft ≤ 8 := by
  unfold Dmc.outputClock
  simp only
  split
  · split <;> exact ⟨Nat.one_le_ofNat, Nat.le_refl 8⟩
  · simp only
    omega

@[simp] theorem fetched_bitsLeft (d : Dmc) (b : Byte) : (d.fetched b).bitsLeft = d.bitsLeft := by
  unfold Dmc.fetched
  simp only
  (repeat' split) <;> rfl

theorem frameStep_fields (u : Apu) :
    u.frameStep.noise.lfsr = u.noise.lfsr ∧ u.frameStep.dmc = u.dmc ∧
    u.frameStep.period = u.period ∧
    u.frameStep.fc = if u.fc + 1 = u.period then 0 else u.fc + 1 := by
  simp only [Apu.frameStep, Apu.quarter, Apu.half, Apu.period]
  (repeat' split) <;> exact ⟨rfl, rfl, by simp_all, rfl⟩

theorem clockTimer_lfsr_ne_zero {n : Noise} (h : n.lfsr ≠ 0) : n.clockTimer.lfsr ≠ 0 := by
  unfold Noise.clockTimer
  split
  · exact nextLfsr_ne_zero h
  · exact h

theorem clockTimer_bitsLeft {d : Dmc} (h : 1 ≤ d.bitsLeft ∧ d.bitsLeft ≤ 8) :
    1 ≤ d.clockTimer.bitsLeft ∧ d.clockTimer.bitsLeft ≤ 8 := by
  unfold Dmc.clockTimer
  split
  · exact outputClock_bitsLeft h
  · exact h

/-- The sequencer stays below its period (R580, R581). -/
theorem audioOk_frameStep {u : Apu} (h : audioOk u = true) : audioOk u.frameStep = true := by
  obtain ⟨hl, hb, hf⟩ := (audioOk_iff u).1 h
  obtain ⟨el, ed, ep, ef⟩ := frameStep_fields u
  rw [audioOk_iff, el, ed, ep, ef]
  refine ⟨hl, hb, ?_⟩
  split
  · exact period_pos u
  · omega

theorem audioOk_timers {u : Apu} (h : audioOk u = true) (p1 p2 : Pulse) (t : Triangle) :
    audioOk { u with pulse1 := p1, pulse2 := p2, triangle := t, noise := u.noise.clockTimer } = true := by
  obtain ⟨hl, hb, hf⟩ := (audioOk_iff u).1 h
  exact (audioOk_iff _).2 ⟨clockTimer_lfsr_ne_zero hl, hb, hf⟩

theorem audioOk_clockFront {u : Apu} (h : audioOk u = true) : audioOk u.clockFront = true := by
  have flipped : audioOk { u with parity := !u.parity } = true := h
  have stepped := audioOk_frameStep flipped
  unfold Apu.clockFront
  simp only
  (repeat' split)
  · exact audioOk_timers stepped _ _ _
  · exact audioOk_timers flipped _ _ _
  · exact audioOk_timers stepped _ _ _
  · exact audioOk_timers flipped _ _ _

end Sys2Proof.Machine
end

section
/-! PROOFS. The machine's invariant is kept by every step: the bus operations, the tick and the clock keep
the part of it that speaks of the devices (`DevicesOk`), the table of the instructions the status byte. -/

namespace Sys2Proof.Machine

/-- The machine's invariant without the status byte. -/
structure DevicesOk (s : State) : Prop where
  memories : memoriesOk s = true
  cart : cartridgeOk s.cart = true
  raster : rasterOk s.ppu = true
  sprites : spritesOk s.ppu = true
  ports : portsOk s = true
  audio : audioOk s.apu = true
  mapper : mapperOk s.cart s.mapper = true

theorem stateOk_iff (s : State) : stateOk s = true ↔ pOk s.p = true ∧ DevicesOk s := by
  simp only [stateOk, Bool.and_eq_true]
  constructor
  · rintro ⟨⟨⟨⟨⟨⟨⟨hp, hm⟩, hc⟩, hr⟩, hs⟩, ho⟩, ha⟩, hg⟩
    exact ⟨hp, hm, hc, hr, hs, ho, ha, hg⟩
  · rintro ⟨hp, hm, hc, hr, hs, ho, ha, hg⟩
    exact ⟨⟨⟨⟨⟨⟨⟨hp, hm⟩, hc⟩, hr⟩, hs⟩, ho⟩, ha⟩, hg⟩

theorem spritesOk_iff (p : Ppu) : spritesOk p = true ↔ p.slotCount ≤ 8 := decide_eq_true_iff

theorem portsOk_iff (s : State) : portsOk s = true ↔ s.ctl0.reads ≤ 8 ∧ s.ctl1.reads ≤ 8 := by
  simp [portsOk]

/-- Of the cartridge the mapper's ranges see the mirroring only. -/
theorem mapperOk_congr {c d : Cartridge} (h : d.mirroring = c.mirroring) (m : Mapper) :
    mapperOk d m = mapperOk c m := by
  cases m <;> simp only [mapperOk, h]

theorem memoriesOk_of_same {s t : State} (h : memoriesOk s = true) (hr : t.ram = s.ram)
    (hv : t.vram = s.vram) (ho : t.ppu.oam = s.ppu.oam) (hc : t.cart = s.cart) :
    memoriesOk t = true :=
  (memoriesOk_congr hr hv ho hc).trans h

/-! ### The bus -/

theorem next_reads_le {q : Port} (h : q.reads ≤ 8) (strobe : Bool) : (q.next strobe).reads ≤ 8 := by
  unfold Port.next
  split
  · exact h
  · split
    · next hlt => exact hlt
    · exact h

theorem portsOk_afterRd {s : State} (h : portsOk s = true) (a : Word) :
    portsOk (afterRd a s) = true := by
  rw [portsOk_iff] at h ⊢
  unfold afterRd readEffect
  split
  · next n _ =>
    obtain ⟨v, w, vb, rb, io, e⟩ := ppuRegReadEffect_keeps n s
    rw [e]
    exact h
  · exact h
  · exact ⟨next_reads_le h.1 _, h.2⟩
  · exact ⟨h.1, next_reads_le h.2 _⟩
  all_goals exact h

/-- `q` has the raster position and the sprite count of `p`. -/
def SameRaster (p q : Ppu) : Prop :=
  q.scanline = p.scanline ∧ q.dot = p.dot ∧ q.slotCount = p.slotCount

theorem writeScroll_sameRaster (p : Ppu) (d : Byte) : SameRaster p (p.writeScroll d) := by
  unfold Ppu.writeScroll
  split <;> exact ⟨rfl, rfl, rfl⟩

theorem writeAddr_sameRaster (p : Ppu) (d : Byte) : SameRaster p (p.writeAddr d) := by
  unfold Ppu.writeAddr
  split <;> exact ⟨rfl, rfl, rfl⟩

/-- `PpuWr` changes graphics RAM, video RAM or the palette (R106). -/
theorem ppuWr_cases (a : VAddr) (v : Byte) (s : State) : ∃ ch vr pal,
    ppuWr a v s =
      { s with cart := { s.cart with chr := ch }, vram := vr, ppu := { s.ppu with pal := pal } } ∧
    (s.cart.chrIsRam = false → ch = s.cart.chr) := by
  unfold ppuWr writeChrRom
  split
  · split
    · next hram => exact ⟨_, s.vram, s.ppu.pal, rfl, fun hrom => by simp [hrom] at hram⟩
    · exact ⟨s.cart.chr, s.vram, s.ppu.pal, rfl, fun _ => rfl⟩
  · split
    · exact ⟨s.cart.chr, _, s.ppu.pal, rfl, fun _ => rfl⟩
    · exact ⟨s.cart.chr, s.vram, _, rfl, fun _ => rfl⟩

theorem writeData_cases (d : Byte) (s : State) : ∃ ch vr p,
    writeData d s = { s with cart := { s.cart with chr := ch }, vram := vr, ppu := p } ∧
    SameRaster s.ppu p ∧ (s.cart.chrIsRam = false → ch = s.cart.chr) := by
  obtain ⟨ch, vr, pal, e, hch⟩ := ppuWr_cases s.ppu.vaddr d s
  simp only [writeData, e]
  exact ⟨ch, vr, _, rfl, ⟨rfl, rfl, rfl⟩, hch⟩

/-- What a register write of the video unit can change (R456, R467): the video unit, but neither the
raster position nor the sprite count, the pending NMI, video RAM and graphics RAM. -/
theorem ppuRegWrite_cases (n : BitVec 3) (d : Byte) (s : State) : ∃ nmi p vr ch,
    ppuRegWrite n d s =
      { s with nmiPending := nmi, ppu := p, vram := vr, cart := { s.cart with chr := ch } } ∧
    SameRaster s.ppu p ∧ (s.cart.chrIsRam = false → ch = s.cart.chr) := by
  unfold ppuRegWrite
  split
  case h_5 => exact ⟨_, _, _, s.cart.chr, rfl, writeScroll_sameRaster _ d, fun _ => rfl⟩
  case h_6 => exact ⟨_, _, _, s.cart.chr, rfl, writeAddr_sameRaster _ d, fun _ => rfl⟩
  case h_7 =>
    obtain ⟨ch, vr, p, e, hp, hch⟩ := writeData_cases d { s with ppu := { s.ppu with ioLatch := d } }
    exact ⟨s.nmiPending, p, vr, ch, e, hp, hch⟩
  all_goals exact ⟨_, _, _, s.cart.chr, rfl, ⟨rfl, rfl, rfl⟩, fun _ => rfl⟩

/-- `writePrgRam` changes program RAM only (R634). -/
theorem writePrgRam_cases (c : Cartridge) (m : Mapper) (a : Word) (v : Byte) :
    ∃ ram, writePrgRam c m a v = { c with prgRam := ram } := by
  unfold writePrgRam
  split
  · exact ⟨_, rfl⟩
  · exact ⟨c.prgRam, rfl⟩

/-- What reads and object-memory writes keep, the copy keeps (R710). -/
theorem oamCopy_keeps_of {P : State → Prop} (hrd : ∀ {s} a, P s → P (afterRd a s))
    (hput : ∀ {s} v, P s → P { s with ppu := s.ppu.oamPut v }) (page : Byte) (n : Nat) {s : State}
    (hs : P s) : P (oamCopy page n s) := by
  induction n generalizing s with
  | zero => exact hs
  | succ n ih => exact ih (hput _ (hrd _ hs))

/-- No register write moves the shift register of the noise channel or the delta channel's bit count,
and the sequencer goes on below its period or starts again at 0 (R532 to R556). -/
theorem audioOk_apuRegWrite {u : Apu} (h : audioOk u = true) (n : Nat) (d : Byte) :
    audioOk (apuRegWrite n d u) = true := by
  unfold apuRegWrite
  split
  case h_19 =>
    refine audioOk_of_same h rfl ?_ rfl rfl
    simp only [Apu.writeEnable, Dmc.enable]
    (repeat' split) <;> rfl
  case h_20 =>
    obtain ⟨hl, hb, _⟩ := (audioOk_iff u).1 h
    rw [audioOk_iff]
    unfold Apu.writeFrame
    simp only
    split <;> exact ⟨hl, hb, period_pos _⟩
  all_goals exact audioOk_of_same h rfl rfl rfl rfl

namespace DevicesOk

variable {s t : State} (h : DevicesOk s)
include h

theorem of_sameButCpu (e : SameButCpu s t) : DevicesOk t := by
  unfold SameButCpu at e
  rw [e]
  exact ⟨h.memories, h.cart, h.raster, h.sprites, h.ports, h.audio, h.mapper⟩

theorem withApu {u : Apu} (hu : audioOk u = true) : DevicesOk { s with apu := u } :=
  ⟨h.memories, h.cart, h.raster, h.sprites, h.ports, hu, h.mapper⟩

theorem withSampleAcc (acc : Nat) : DevicesOk { s with apu := { s.apu with sampleAcc := acc } } :=
  h.withApu (audioOk_of_same h.audio rfl rfl rfl rfl)

theorem withHost (host : HostPort) : DevicesOk { s with host := host } :=
  ⟨h.memories, h.cart, h.raster, h.sprites, h.ports, h.audio, h.mapper⟩

theorem afterRd (a : Word) : DevicesOk (afterRd a s) where
  memories := afterRd_keeps h.memories a
  cart := by rw [afterRd_cart]; exact h.cart
  raster := by simpa [rasterOk] using h.raster
  sprites := by simpa [spritesOk] using h.sprites
  ports := portsOk_afterRd h.ports a
  audio := by
    refine audioOk_of_same h.audio ?_ ?_ ?_ ?_ <;> simp
  mapper := by rw [afterRd_cart, afterRd_mapper]; exact h.mapper

theorem oamPut (v : Byte) : DevicesOk { s with ppu := s.ppu.oamPut v } :=
  ⟨oamPut_keeps h.memories v, h.cart, h.raster, h.sprites, h.ports, h.audio, h.mapper⟩

theorem ppuRegWrite (n : BitVec 3) (v : Byte) : DevicesOk (ppuRegWrite n v s) := by
  have hmem := ppuRegWrite_keeps h.memories h.mapper n v
  obtain ⟨nmi, p, vr, ch, e, ⟨hline, hdot, hcount⟩, -⟩ := ppuRegWrite_cases n v s
  rw [e] at hmem ⊢
  refine ⟨hmem, h.cart, ?_, ?_, h.ports, h.audio, (mapperOk_congr rfl _).trans h.mapper⟩
  · rw [rasterOk_iff, hline, hdot]
    exact (rasterOk_iff _).1 h.raster
  · rw [spritesOk_iff, hcount]
    exact (spritesOk_iff _).1 h.sprites

theorem wr (a : Word) (v : Byte) : DevicesOk (wr a v s) := by
  have hmem := wr_keeps h.memories h.mapper a v
  unfold Machine.wr at hmem ⊢
  split at hmem
  case h_1 => exact ⟨hmem, h.cart, h.raster, h.sprites, h.ports, h.audio, h.mapper⟩
  case h_2 n _ => exact h.ppuRegWrite n v
  case h_3 =>
    have copied : DevicesOk (oamCopy v 256 s) :=
      oamCopy_keeps_of (fun a hs => hs.afterRd a) (fun v hs => hs.oamPut v) v 256 h
    exact copied.of_sameButCpu rfl
  case h_4 =>
    have cleared : portsOk (ctlStrobeWrite v s) = true :=
      (portsOk_iff _).2 ⟨Nat.zero_le 8, Nat.zero_le 8⟩
    exact ⟨hmem, h.cart, h.raster, h.sprites, cleared, h.audio, h.mapper⟩
  case h_5 n _ => exact h.withApu (audioOk_apuRegWrite h.audio n v)
  case h_6 => exact h
  case h_7 =>
    obtain ⟨ram, e⟩ := writePrgRam_cases s.cart s.mapper a v
    simp only [e] at hmem ⊢
    exact ⟨hmem, h.cart, h.raster, h.sprites, h.ports, h.audio, (mapperOk_congr rfl _).trans h.mapper⟩
  case h_8 =>
    exact ⟨hmem, h.cart, h.raster, h.sprites, h.ports, h.audio, mapperOk_writePrgRom h.mapper a v⟩

end DevicesOk

theorem devicesOk_invariant : DeviceInvariant DevicesOk where
  cpu hs := hs.of_sameButCpu
  read a hs := hs.afterRd a
  write a v hs := hs.wr a v

/-! ### The passes of the devices -/

namespace DevicesOk

variable {s : State} (h : DevicesOk s)
include h

/-- A tick advances the raster within the grid (R475, R482). -/
theorem tick : DevicesOk (tick s) := by
  obtain ⟨q, hq, e⟩ := tick_ppu s
  obtain ⟨nmi, host, p, e'⟩ := tick_cases s
  rw [e'] at e ⊢
  obtain rfl : p = q.advance := e
  refine ⟨?_, h.cart, rasterOk_advance ?_, ?_, h.ports, h.audio, h.mapper⟩
  · have same : q.advance.oam = s.ppu.oam := (advance_oam q).trans hq.oam
    exact memoriesOk_of_same h.memories rfl rfl same rfl
  · rw [rasterOk_iff, hq.scanline, hq.dot]
    exact (rasterOk_iff _).1 h.raster
  · rw [spritesOk_iff, advance_slotCount]
    exact hq.sprites ((spritesOk_iff _).1 h.sprites)

/-- The byte the delta channel fetches leaves its bit count (R572). -/
theorem dmcReader : DevicesOk (dmcReader s) := by
  unfold Machine.dmcReader
  split
  · let stalled : State := { s with stall := s.stall + config.dmcStallCycles }
    have read : DevicesOk (Machine.afterRd s.apu.dmc.curAddr stalled) :=
      (h.of_sameButCpu rfl : DevicesOk stalled).afterRd _
    exact read.withApu (audioOk_of_same read.audio rfl (fetched_bitsLeft _ _) rfl rfl)
  · exact h

theorem sampleStep : DevicesOk (sampleStep s) := by
  rw [sampleStep_eq]
  generalize s.apu.nextSampleAcc = acc
  generalize s.apu.sampleDue = due
  exact (h.withSampleAcc acc).withHost _

theorem clock : DevicesOk (clock s) := by
  let r := Machine.dmcReader { s with apu := s.apu.clockFront }
  have read : DevicesOk r := (h.withApu (audioOk_clockFront h.audio)).dmcReader
  obtain ⟨hl, hb, hf⟩ := (audioOk_iff _).1 read.audio
  have timed : audioOk { r.apu with dmc := r.apu.dmc.clockTimer } = true :=
    (audioOk_iff _).2 ⟨hl, clockTimer_bitsLeft hb, hf⟩
  exact (read.withApu timed).sampleStep

theorem devicePass : DevicesOk (devicePass s) := h.tick.tick.tick.clock

end DevicesOk

theorem devicesOk_step {s t : State} (h : DevicesOk s) (ht : step s = .next t) : DevicesOk t :=
  devicesOk_invariant.step (fun hs => hs.devicePass) h ht

end Sys2Proof.Machine
end

section
/-! PROOFS. The machine's invariant over a step and a reset, and what of the cartridge no step changes. -/

namespace Sys2Proof.Machine

/-- Settles O58: the instructions keep the two fixed bits of the status byte, and the devices' part is
kept by every bus access and every pass of the devices. -/
theorem stepKeepsTheInvariant : Obligations.StepKeepsTheInvariant := by
  intro s t hs ht
  rw [stateOk_iff] at hs ⊢
  exact ⟨pOk_step hs.1 ht, devicesOk_step hs.2 ht⟩

/-! ### What no step changes of the cartridge -/

@[simp] theorem writePrgRom_id (m : Mapper) (a : Word) (v : Byte) : (m.writePrgRom a v).id = m.id := by
  cases m <;> rfl

@[simp] theorem cartridgeIdentity_afterRd (a : Word) (s : State) :
    cartridgeIdentity (afterRd a s) = cartridgeIdentity s := by
  simp only [cartridgeIdentity, afterRd_cart, afterRd_mapper]

/-- Graphics memory is part of the identity when it is ROM, and then no write reaches it (R637). -/
theorem cartridgeIdentity_ppuRegWrite (n : BitVec 3) (v : Byte) (s : State) :
    cartridgeIdentity (ppuRegWrite n v s) = cartridgeIdentity s := by
  obtain ⟨nmi, p, vr, ch, e, -, hch⟩ := ppuRegWrite_cases n v s
  rw [e]
  cases hram : s.cart.chrIsRam with
  | true => simp [cartridgeIdentity, Cartridge.chrIsRam] at hram ⊢; simp [hram]
  | false => rw [hch hram]; rfl

@[simp] theorem cartridgeIdentity_wr (a : Word) (v : Byte) (s : State) :
    cartridgeIdentity (wr a v s) = cartridgeIdentity s := by
  unfold wr
  split
  case h_2 n _ => exact cartridgeIdentity_ppuRegWrite n v s
  case h_3 =>
    have copied : cartridgeIdentity (oamCopy v 256 s) = cartridgeIdentity s :=
      oamCopy_keeps_of (P := fun t => cartridgeIdentity t = cartridgeIdentity s)
        (fun a h => (cartridgeIdentity_afterRd a _).trans h) (fun _ => id) v 256 rfl
    have stalled (t : State) (n : Nat) : cartridgeIdentity { t with stall := n } = cartridgeIdentity t := rfl
    exact (stalled _ _).trans copied
  case h_7 =>
    obtain ⟨ram, e⟩ := writePrgRam_cases s.cart s.mapper a v
    rw [e]
    rfl
  case h_8 => simp only [cartridgeIdentity, writePrgRom_id]
  all_goals rfl

theorem cartridgeIdentity_invariant (c : CartridgeIdentity) :
    DeviceInvariant (fun s => cartridgeIdentity s = c) where
  cpu hs e := by
    rw [e]
    exact hs
  read a hs := (cartridgeIdentity_afterRd a _).trans hs
  write a v hs := (cartridgeIdentity_wr a v _).trans hs

/-- No step changes what identifies the cartridge. -/
theorem cartridgeIdentity_step {s t : State} (ht : step s = .next t) :
    cartridgeIdentity t = cartridgeIdentity s :=
  (cartridgeIdentity_invariant _).step
    (fun hs => by simpa only [cartridgeIdentity, devicePass_cart, devicePass_mapper] using hs) rfl ht

/-- Settles O37: what the statement lists is the cartridge's identity. -/
theorem romNeverChanges : Obligations.RomNeverChanges := by
  intro s t ht
  have same := cartridgeIdentity_step ht
  simp only [cartridgeIdentity, CartridgeIdentity.mk.injEq] at same
  obtain ⟨hprg, hrom, hchr, hchrRom, hmir, hbat, hid⟩ := same
  refine ⟨hrom, fun hs => ?_, hprg, hchr, hmir, hbat, hid⟩
  have ht : t.cart.chrIsRam = false := by rw [Cartridge.chrIsRam, hchr]; exact hs
  rwa [hs, ht] at hchrRom

/-! ### Reset (R740) -/

/-- Everything `reset()` does: the fields of `State.reset` around what it keeps of the cartridge, PC and
the latch from the vector. -/
theorem hostReset_eq (s : State) :
    hostReset s = { State.reset with
      cart := s.cart.reset, mapper := s.mapper.reset s.cart, host := s.host
      pc := word (readPrgRom s.cart (s.mapper.reset s.cart) 0xFFFD)
        (readPrgRom s.cart (s.mapper.reset s.cart) 0xFFFC)
      busLatch := readPrgRom s.cart (s.mapper.reset s.cart) 0xFFFD } := by
  have vector (u : State) : readPointer config.vecReset (config.vecReset + 1) u =
      ⟨word (readPrgRom u.cart u.mapper 0xFFFD) (readPrgRom u.cart u.mapper 0xFFFC),
        { u with busLatch := readPrgRom u.cart u.mapper 0xFFFD }⟩ := by
    simp [readPointer, peek_prgRom, afterRd_of_prgRom]
  simp only [hostReset, vector]
  rfl

theorem devicesOk_hostReset {s : State} (h : DevicesOk s) : DevicesOk (hostReset s) := by
  obtain ⟨-, -, -, hrom, hchr, hram⟩ := (memoriesOk_iff s).1 h.memories
  rw [hostReset_eq]
  refine ⟨(memoriesOk_iff _).2 ⟨rfl, storeOk_nil _, rfl, hrom, ?_, fun m hm => ?_⟩,
    h.cart, rfl, rfl, rfl, rfl, mapperOk_reset s.cart s.mapper⟩
  · unfold Cartridge.reset
    simp only
    split
    · exact storeOk_nil _
    · exact hchr
  · unfold Cartridge.reset at hm
    simp only at hm
    split at hm
    · exact hram m hm
    · obtain ⟨_, -, rfl⟩ := Option.map_eq_some_iff.1 hm
      exact storeOk_nil _

theorem pOk_resetP : pOk config.resetP = true := by decide

/-- Settles O59: the state after reset is computed, and a reset of any other machine keeps of the
cartridge only what is in order already. -/
theorem resetHasTheInvariant : Obligations.ResetHasTheInvariant := by
  refine ⟨by decide, fun s hs => ?_⟩
  rw [stateOk_iff] at hs ⊢
  exact ⟨by rw [hostReset_eq]; exact pOk_resetP, devicesOk_hostReset hs.2⟩

/-- Two bytes as a number: the low byte and 256 times the high one (R110). -/
theorem word_eq_ofNat (h l : Byte) : word h l = BitVec.ofNat 16 (l.toNat + 256 * h.toNat) := by
  refine BitVec.eq_of_toNat_eq ?_
  rw [word, BitVec.toNat_append, ← Nat.shiftLeft_add_eq_or_of_lt l.isLt, BitVec.toNat_ofNat]
  omega

/-- Settles O55: `hostReset_eq`, field by field. -/
theorem resetValues : Obligations.ResetValues := by
  intro s
  dsimp only
  rw [hostReset_eq]
  refine ⟨⟨rfl, rfl, rfl, rfl, rfl, rfl, rfl, rfl⟩, ⟨word_eq_ofNat _ _, rfl⟩, rfl,
    ⟨_, rfl, _, rfl, _, rfl, rfl, rfl, rfl, rfl⟩, rfl, ⟨rfl, rfl, rfl, rfl, rfl, rfl⟩, ?_,
    ⟨rfl, ?_, rfl, rfl, rfl, rfl, rfl⟩, ⟨rfl, rfl, fun _ => rfl⟩, ⟨rfl, rfl, rfl, rfl⟩⟩
  · cases s.mapper <;> rfl
  · simp only [Cartridge.reset, Cartridge.chrIsRam, beq_iff_eq]

end Sys2Proof.Machine
end

section
/-! PROOFS. The stack: pushes, pulls, calls, returns and traps, from the lemmas of Laws/Ops that say what
each does to work RAM. -/

namespace Sys2Proof.Machine

/-! ### Steps of the stack pointer, modulo 256 -/

theorem sub_one_sub_one (sp : Byte) : sp - 1 - 1 = sp - 2 := by bv_omega

theorem sub_two_sub_one (sp : Byte) : sp - 2 - 1 = sp - 3 := by bv_omega

theorem add_one_add_one (sp : Byte) : sp + 1 + 1 = sp + 2 := by bv_omega

theorem add_two_add_one (sp : Byte) : sp + 2 + 1 = sp + 3 := by bv_omega

theorem stackOffset_ne {sp sp' : Byte} (h : sp ≠ sp') : stackOffset sp ≠ stackOffset sp' := by
  unfold stackOffset
  bv_omega

/-! ### PHA, PHP, PLA, PLP -/

theorem exec_pha (s : State) : exec .pha s = .next { s with
    ram := s.ram.set (stackOffset s.sp) s.a, sp := s.sp - 1
    pc := s.pc + 1, cyc := s.cyc + 3 } := by
  simp only [exec, execPha, impInstr, push_eq]
  rfl

theorem exec_php (s : State) : exec .php s = .next { s with
    ram := s.ram.set (stackOffset s.sp) (pushedPHigh s.p), sp := s.sp - 1
    pc := s.pc + 1, cyc := s.cyc + 3 } := by
  simp only [exec, execPhp, impInstr, push_eq]
  rfl

theorem exec_pla (s : State) : exec .pla s = .next { s with
    a := s.ram.get (stackOffset (s.sp + 1)), p := setZN (s.ram.get (stackOffset (s.sp + 1))) s.p
    sp := s.sp + 1, busLatch := s.ram.get (stackOffset (s.sp + 1))
    pc := s.pc + 1, cyc := s.cyc + 4 } := by
  simp only [exec, execPla, impInstr, pulled_eq, afterPull_eq]
  rfl

theorem exec_plp (s : State) : exec .plp s = .next { s with
    p := pulledP (s.ram.get (stackOffset (s.sp + 1))), sp := s.sp + 1
    busLatch := s.ram.get (stackOffset (s.sp + 1)), pc := s.pc + 1, cyc := s.cyc + 4 } := by
  simp only [exec, execPlp, impInstr, pulled_eq, afterPull_eq]
  rfl

/-- The flags of a pulled byte, bits 5 and 4 ignored (R28). -/
theorem pulledP_flags (m : Byte) (f : Flag) :
    getFlag f (pulledP m) = (f == .U || (f != .B && getFlag f m)) := by
  rw [getFlag_pulledP]
  cases f <;> rfl

theorem pushedPHigh_flags (p : Byte) (f : Flag) :
    getFlag f (pushedPHigh p) = (f == .B || f == .U || getFlag f p) := by
  rw [getFlag_pushedPHigh]
  cases f <;> rfl

theorem setZN_flagsAre (v p : Byte) : flagsAre (znOf v) p (setZN v p) := by
  intro f
  rw [getFlag_setZN]
  cases f
  case N => simp [znOf, BitVec.msb_eq_getLsbD_last]
  all_goals rfl

theorem putFlag_flagsAre (g : Flag) (b : Bool) (p : Byte) :
    flagsAre (oneFlag g b) p (putFlag g b p) := by
  intro f
  rw [getFlag_putFlag, oneFlag]
  split <;> rfl

/-- A status byte with U set and B clear comes back from its pushed copy, whatever the copy's bits 5 and
4 are (R28). -/
theorem pulledP_of_flags {p m : Byte} (hp : pOk p = true)
    (hm : ∀ f, f ≠ .U → f ≠ .B → getFlag f m = getFlag f p) : pulledP m = p := by
  rw [pOk_iff] at hp
  refine flags_ext fun f => ?_
  rw [getFlag_pulledP]
  split
  · next hU => rw [hU, hp.1]
  · next hU =>
    split
    · next hB => rw [hB, hp.2]
    · next hB => exact hm f hU hB

theorem pulledP_pushedP (k : TrapKind) {p : Byte} (hp : pOk p = true) :
    pulledP (k.pushedP p) = p := by
  refine pulledP_of_flags hp fun f hU hB => ?_
  cases k <;> simp [TrapKind.pushedP, hU, hB]

/-- Settles O20: a push is one write of work RAM. -/
theorem pushInstructions : Obligations.PushInstructions :=
  fun s => ⟨⟨rfl, exec_pha s⟩, rfl, pushedPHigh s.p, pushedPHigh_flags s.p, exec_php s⟩

/-- Settles O21: a pull reads work RAM above S, where PHP has written. -/
theorem pullInstructions : Obligations.PullInstructions := by
  refine ⟨fun s => ⟨⟨_, setZN_flagsAre _ s.p, exec_pla s⟩, _, pulledP_flags _, exec_plp s⟩, ?_⟩
  intro s t u hwf hp ht hu
  rw [exec_php] at ht
  cases ht
  rw [exec_plp] at hu
  cases hu
  have restored : pulledP (pushedPHigh s.p) = s.p := pulledP_pushedP .brk hp
  simp only [BitVec.sub_add_cancel, Memory.get_set_same hwf, restored, and_self]

/-! ### Calls and returns -/

theorem hi_eq_ofNat (w : Word) : hi w = BitVec.ofNat 8 (w.toNat / 256) := by
  refine BitVec.eq_of_toNat_eq ?_
  simp [hi, BitVec.extractLsb'_toNat, Nat.shiftRight_eq_div_pow]

theorem lo_eq_ofNat (w : Word) : lo w = BitVec.ofNat 8 w.toNat := by
  refine BitVec.eq_of_toNat_eq ?_
  simp [lo, BitVec.extractLsb'_toNat]

@[simp] theorem word_hi_lo (w : Word) : word (hi w) (lo w) = w := by
  refine BitVec.eq_of_toNat_eq ?_
  have := w.isLt
  rw [word_eq_ofNat, hi_eq_ofNat, lo_eq_ofNat]
  simp
  omega

theorem word_add_one (h l : Byte) : word h l + 1 = BitVec.ofNat 16 (l.toNat + 256 * h.toNat + 1) := by
  rw [word_eq_ofNat, BitVec.ofNat_add (y := 1)]
  rfl

/-- Settles O23: two pushes and a jump; two pulls and a jump. -/
theorem callAndReturn : Obligations.CallAndReturn := by
  intro s w
  constructor
  · simp only [exec, execJsrAbs, push16_eq, hi_eq_ofNat, lo_eq_ofNat, sub_one_sub_one]
    rfl
  · simp only [exec, execRts, pulled16_eq, afterPull16_eq, word_add_one, add_one_add_one]
    rfl

theorem exec_rti (s : State) : exec .rti s = .next { s with
    p := pulledP (s.ram.get (stackOffset (s.sp + 1))), sp := s.sp + 3
    busLatch := s.ram.get (stackOffset (s.sp + 3))
    pc := word (s.ram.get (stackOffset (s.sp + 3))) (s.ram.get (stackOffset (s.sp + 2)))
    cyc := s.cyc + 6 } := by
  simp only [exec, execRti, returnFromTrap_eq, add_one_add_one, add_two_add_one]
  rfl

/-- Settles O25: three pulls. -/
theorem returnFromInterrupt : Obligations.ReturnFromInterrupt := by
  intro s
  refine ⟨_, pulledP_flags _, ?_⟩
  rw [exec_rti, word_eq_ofNat]

/-! ### Traps -/

theorem interrupt_eq (k : TrapKind) (s : State) :
    interrupt k s = enterTrap k s.pc 7 { s with nmiPending := s.nmiPending && (k != .nmi) } := rfl

/-- The three bytes a trap entry pushes. -/
def trapFrame (sp : Byte) (ret : Word) (p : Byte) (ram : Memory) : Memory :=
  ((ram.set (stackOffset sp) (hi ret)).set (stackOffset (sp - 1)) (lo ret)).set (stackOffset (sp - 2)) p

/-- `enterTrap_eq` in the words of the statements. -/
theorem enterTrap_frame (k : TrapKind) (ret : Word) (n : Nat) (s : State) :
    enterTrap k ret n s = { s with
      ram := trapFrame s.sp ret (k.pushedP s.p) s.ram
      sp := s.sp - 3
      p := putFlag .I true s.p
      busLatch := readPrgRom s.cart s.mapper (k.vector + 1)
      pc := word (readPrgRom s.cart s.mapper (k.vector + 1)) (readPrgRom s.cart s.mapper k.vector)
      cyc := s.cyc + n } := by
  simp only [enterTrap_eq, sub_one_sub_one, sub_two_sub_one]
  rfl

theorem pushedP_flags (k : TrapKind) (p : Byte) (f : Flag) :
    getFlag f (k.pushedP p) = if f = .B then k == .brk else f == .U || getFlag f p := by
  cases k <;> cases f <;> simp [TrapKind.pushedP]

/-- Settles O26: `enterTrap_frame` for the three events. -/
theorem trapEntry : Obligations.TrapEntry := by
  intro s enter
  have entered (k : TrapKind) (ret : Word) (nmi : Bool) :
      enter k.vector ret (k == .brk) nmi 7 (enterTrap k ret 7 { s with nmiPending := nmi }) :=
    ⟨_, _, pushedP_flags k s.p, putFlag_flagsAre .I true s.p, enterTrap_frame k ret 7 _⟩
  refine ⟨⟨_, entered .nmi s.pc false, ?_⟩, ⟨_, entered .irq s.pc s.nmiPending, ?_⟩,
    rfl, _, entered .brk (s.pc + 2) s.nmiPending, rfl⟩
  · rw [interrupt_eq, bne_self_eq_false, Bool.and_false]
  · rw [interrupt_eq, show (TrapKind.irq != .nmi) = true from rfl, Bool.and_true]

/-- The bytes of the frame, read where RTI reads them. -/
theorem get_trapFrame {ram : Memory} (hwf : ram.wf = true) (sp : Byte) (ret : Word) (p : Byte) :
    (trapFrame sp ret p ram).get (stackOffset (sp - 2)) = p ∧
    (trapFrame sp ret p ram).get (stackOffset (sp - 1)) = lo ret ∧
    (trapFrame sp ret p ram).get (stackOffset sp) = hi ret := by
  have h1 := Memory.wf_set hwf (stackOffset sp) (hi ret)
  have h2 := Memory.wf_set h1 (stackOffset (sp - 1)) (lo ret)
  unfold trapFrame
  refine ⟨Memory.get_set_same h2 _ _, ?_, ?_⟩
  · rw [Memory.get_set_other (stackOffset_ne (by bv_omega)), Memory.get_set_same h1]
  · rw [Memory.get_set_other (stackOffset_ne (by bv_omega)),
      Memory.get_set_other (stackOffset_ne (by bv_omega)), Memory.get_set_same hwf]

/-- RTI right after a trap entry goes back to the pushed address with P and S as before. -/
theorem rti_after_enterTrap {k : TrapKind} {ret : Word} {n : Nat} {s u : State}
    (hwf : s.ram.wf = true) (hp : pOk s.p = true) (hu : exec .rti (enterTrap k ret n s) = .next u) :
    u.pc = ret ∧ u.p = s.p ∧ u.sp = s.sp ∧ u.a = s.a ∧ u.x = s.x ∧ u.y = s.y := by
  obtain ⟨hpushed, hlo, hhi⟩ := get_trapFrame hwf s.sp ret (k.pushedP s.p)
  have e1 : s.sp - 3 + 1 = s.sp - 2 := by bv_omega
  have e2 : s.sp - 3 + 2 = s.sp - 1 := by bv_omega
  rw [enterTrap_frame, exec_rti] at hu
  cases hu
  simp only [e1, e2, BitVec.sub_add_cancel, hpushed, hlo, hhi, word_hi_lo, pulledP_pushedP k hp, and_self]

/-- Settles O28: all three events are trap entries. -/
theorem returnAfterTrap : Obligations.ReturnAfterTrap := by
  intro s u hwf hp
  refine ⟨fun k _ hu => ?_, fun t ht hu => ?_⟩
  · rw [interrupt_eq] at hu
    exact rti_after_enterTrap (s := { s with nmiPending := s.nmiPending && (k != .nmi) }) hwf hp hu
  · have e : enterTrap .brk (s.pc + 2) 7 s = t := Host.Outcome.next.inj ht
    rw [← e] at hu
    exact rti_after_enterTrap hwf hp hu

end Sys2Proof.Machine
end

section
/-! PROOFS. Nametable mirroring, and the cartridge image. -/

namespace Sys2Proof.Machine

/-! ### Nametables (R103, R638) -/

/-- The place of a nametable address in video RAM: its physical table, and its offset in the table. The
fold of 0x3000 onto 0x2000 leaves both (R104). -/
theorem nametableOffset_eq (s : State) (a : VAddr) :
    nametableOffset s a =
      physTable (currentMirroring s.cart s.mapper) (bits a 10 2) * 1024 + a.toNat % 1024 := by
  have table : bits (0x2000 ||| (a &&& 0x0FFF)) 10 2 = bits a 10 2 := by
    refine BitVec.eq_of_getLsbD_eq fun i hi => ?_
    interval_cases i <;> simp [bits]
  have place : bits (0x2000 ||| (a &&& 0x0FFF)) 0 10 = bits a 0 10 := by
    refine BitVec.eq_of_getLsbD_eq fun i hi => ?_
    interval_cases i <;> simp [bits]
  rw [nametableOffset, mapNametableAddress, table, place]
  simp [bits]

theorem toNat_table (a : VAddr) : (bits a 10 2).toNat = a.toNat / 1024 % 4 := by
  simp [bits, Nat.shiftRight_eq_div_pow]

/-- Two nametable addresses share a byte when they have one place in one physical table. -/
theorem nametableOffset_inj (s : State) (a b : VAddr) :
    nametableOffset s b = nametableOffset s a ↔
      a.toNat % 1024 = b.toNat % 1024 ∧
      physTable (currentMirroring s.cart s.mapper) (bits a 10 2) =
        physTable (currentMirroring s.cart s.mapper) (bits b 10 2) := by
  rw [nametableOffset_eq, nametableOffset_eq]
  omega

/-- Settles O41: a nametable byte is written and read at `nametableOffset`. -/
theorem nametableMirrors : Obligations.NametableMirrors := by
  intro s a b v hwf ha ha' hb hb' table mode same
  have hmode : currentMirroring s.cart s.mapper = mode := rfl
  have hsame : physTable mode (bits a 10 2) = physTable mode (bits b 10 2) ↔ same = true := by
    simp only [same]
    cases mode <;> simp [physTable, toNat_table, table]
  have written : ppuWr a v s = { s with vram := s.vram.set (nametableOffset s a) v } := by
    rw [ppuWr, if_neg (by omega), if_pos ha']
  have read (t : State) : ppuRd b t = t.vram.get (nametableOffset t b) := by
    rw [ppuRd, if_neg (by omega), if_pos hb']
  have place : nametableOffset { s with vram := s.vram.set (nametableOffset s a) v } b =
    nametableOffset s b := rfl
  rw [written, read, read, place, Memory.get_set hwf]
  simp only [nametableOffset_inj, hmode, hsame]

/-! ### The header of a cartridge image (R621, R623, R626) -/

theorem toNat_getLsbD (v : Byte) (i : Nat) : v.getLsbD i = decide (v.toNat / 2 ^ i % 2 = 1) := by
  rw [BitVec.getLsbD, Nat.testBit_eq_decide_div_mod_eq]

theorem magicOk_iff (bytes : List Byte) : (parseHeader bytes).magicOk = true ↔
    16 ≤ bytes.length ∧ (bytes.getD 0 0).toNat = 0x4E ∧ (bytes.getD 1 0).toNat = 0x45 ∧
    (bytes.getD 2 0).toNat = 0x53 ∧ (bytes.getD 3 0).toNat = 0x1A := by
  simp only [parseHeader, Bool.and_eq_true, decide_eq_true_eq, beq_iff_eq]
  refine and_congr_right fun hlen => ?_
  match bytes, hlen with
  | b0 :: b1 :: b2 :: b3 :: rest, _ => simp [BitVec.toNat_eq]

theorem version_iff (bytes : List Byte) :
    (parseHeader bytes).version = 2 ↔ (bytes.getD 7 0).toNat / 4 % 4 = 2 := by
  simp [parseHeader, bits, BitVec.toNat_eq, Nat.shiftRight_eq_div_pow]

/-- The high nibble of one byte above the high nibble of another (R623). -/
theorem toNat_nibbles (x y : Byte) :
    ((x &&& (0xF0 : Byte)) ||| (y >>> 4)).toNat = x.toNat / 16 * 16 + y.toNat / 16 := by
  have high : x &&& (0xF0 : Byte) = (x >>> 4) <<< 4 := by
    refine BitVec.eq_of_getLsbD_eq fun i hi => ?_
    interval_cases i <;> simp
  have apart : (x >>> 4) <<< 4 &&& y >>> 4 = 0#8 := by
    refine BitVec.eq_of_getLsbD_eq fun i hi => ?_
    interval_cases i <;> simp
  rw [high, ← BitVec.add_eq_or_of_and_eq_zero _ _ apart]
  have hx := x.isLt
  have hy := y.isLt
  simp [Nat.shiftRight_eq_div_pow, Nat.shiftLeft_eq]
  omega

theorem mapperId_eq (bytes : List Byte) : (parseHeader bytes).mapperId =
    (bytes.getD 7 0).toNat / 16 * 16 + (bytes.getD 6 0).toNat / 16 := toNat_nibbles _ _

theorem prgStart_eq (bytes : List Byte) : (parseHeader bytes).prgStart =
    16 + if (bytes.getD 6 0).toNat / 4 % 2 = 1 then 512 else 0 := by
  simp only [Header.prgStart, parseHeader, toNat_getLsbD, decide_eq_true_eq, Nat.reducePow]

theorem mirroring_eq (bytes : List Byte) : (parseHeader bytes).mirroring =
    if (bytes.getD 6 0).toNat / 8 % 2 = 1 then .F
    else if (bytes.getD 6 0).toNat % 2 = 1 then .V else .H := by
  simp only [parseHeader, toNat_getLsbD, decide_eq_true_eq, Nat.reducePow, Nat.div_one]

theorem battery_eq (bytes : List Byte) :
    (parseHeader bytes).battery = ((bytes.getD 6 0).toNat / 2 % 2 == 1) := by
  simp only [parseHeader, toNat_getLsbD, Nat.pow_one, beq_eq_decide]

theorem bodyOk_iff (h : Header) (n : Nat) : h.bodyOk n = true ↔
    0 < h.prgBanks ∧ h.prgStart + h.prgBanks * 16384 + h.chrBanks * 8192 ≤ n := by
  simp [Header.bodyOk]

/-! ### Loading (R628, R629) -/

theorem parseGame_badMagic {bytes : List Byte} (h : ¬ (parseHeader bytes).magicOk = true) :
    parseGame bytes = .error .badMagic := by
  simp only [parseGame, Bool.eq_false_of_not_eq_true h, Bool.not_false, if_true]

section
variable {bytes : List Byte} (h : (parseHeader bytes).magicOk = true)
include h

theorem parseGame_unsupportedVersion (hv : (parseHeader bytes).version = 2) :
    parseGame bytes = .error .unsupportedVersion := by
  simp only [parseGame, h, hv, Bool.not_true, Bool.false_eq_true, if_false, if_true]

variable (hv : (parseHeader bytes).version ≠ 2)
include hv

theorem parseGame_badBody (hb : ¬ (parseHeader bytes).bodyOk bytes.length = true) :
    parseGame bytes = .error .badMagic := by
  simp only [parseGame, h, hv, Bool.eq_false_of_not_eq_true hb, Bool.not_true, Bool.not_false,
    Bool.false_eq_true, if_false, if_true]

variable (hb : (parseHeader bytes).bodyOk bytes.length = true)
include hb

theorem parseGame_unsupportedMapper
    (hm : Mapper.construct ((parseHeader bytes).cartridge bytes) (parseHeader bytes).mapperId = none) :
    parseGame bytes = .error (.unsupportedMapper (parseHeader bytes).mapperId) := by
  simp only [parseGame, h, hv, hb, hm, Bool.not_true, Bool.false_eq_true, if_false]

theorem parseGame_ok {m : Mapper}
    (hm : Mapper.construct ((parseHeader bytes).cartridge bytes) (parseHeader bytes).mapperId = some m) :
    parseGame bytes = .ok ⟨(parseHeader bytes).cartridge bytes, m⟩ := by
  simp only [parseGame, h, hv, hb, hm, Bool.not_true, Bool.false_eq_true, if_false]

end

theorem construct_eq_none {c : Cartridge} {id : Nat} (h : id ∉ [0, 1, 2, 3, 7]) :
    Mapper.construct c id = none := by
  unfold Mapper.construct
  split <;> simp_all

/-- The mapper a supported number gives, reset (R640, R658, R673). -/
def resetMapper (mirroring : Mirroring) : Nat → Mapper
  | 0 => .fixed
  | 1 => .shiftRegister (Mmc1.reset mirroring)
  | 2 => .swap16 0
  | 3 => .chrSelect 0
  | _ => .swap32 0 false .S0

theorem construct_eq_some (c : Cartridge) {id : Nat} (h : id ∈ [0, 1, 2, 3, 7]) :
    ∃ m, Mapper.construct c id = some m ∧ m.reset c = resetMapper c.mirroring id := by
  simp only [List.mem_cons, List.not_mem_nil, or_false] at h
  obtain rfl | rfl | rfl | rfl | rfl := h <;> exact ⟨_, rfl, rfl⟩

theorem hostLoad_error {bytes : List Byte} {e : LoadError} (h : parseGame bytes = .error e)
    (s : State) : hostLoad bytes s = ⟨s, some e⟩ := by
  rw [hostLoad, h]

theorem hostLoad_ok {bytes : List Byte} {c : Cartridge} {m : Mapper} (h : parseGame bytes = .ok ⟨c, m⟩)
    (s : State) : hostLoad bytes s = ⟨hostReset { s with cart := c, mapper := m }, none⟩ := by
  rw [hostLoad, h]

/-- A failed load changes nothing. -/
theorem hostLoad_st_of_error {bytes : List Byte} {s : State} (h : (hostLoad bytes s).error ≠ none) :
    (hostLoad bytes s).st = s := by
  unfold hostLoad at h ⊢
  split
  · next heq => simp [heq] at h
  · rfl

@[simp] theorem cartridge_reset_reset (c : Cartridge) : c.reset.reset = c.reset := by
  cases hb : c.battery <;> cases hc : c.chrIsRam <;>
    simp_all [Cartridge.reset, Cartridge.chrIsRam, Function.comp_def]

/-- A reset of the machine right after a reset changes nothing. -/
theorem hostReset_of_reset (s : State) (c : Cartridge) (m : Mapper) :
    hostReset { s with cart := c.reset, mapper := m.reset c } =
      hostReset { s with cart := c, mapper := m } := by
  have mapper : (m.reset c).reset c.reset = m.reset c := mapper_reset_reset c m
  have rom (a : Word) : readPrgRom c.reset (m.reset c) a = readPrgRom c (m.reset c) a := rfl
  rw [hostReset_eq, hostReset_eq]
  simp only [mapper, rom, cartridge_reset_reset]

/-- A stretch of an image, laid out as a storage: byte `k` of it is byte `start + k` of the image. -/
theorem get_ofBytes_stretch (bytes : List Byte) (start size : Nat) {k : Nat} (hk : k < size) :
    (Memory.ofBytes ((bytes.drop start).take size)).get k = bytes.getD (start + k) 0 := by
  rw [Memory.get_ofBytes]
  simp [List.getD_eq_getElem?_getD, hk, Memory.blank]

/-- The program ROM of an image (R624). -/
theorem get_cartridge_prgRom (h : Header) (bytes : List Byte) {k : Nat} (hk : k < h.prgBanks * 16384) :
    (h.cartridge bytes).prgRom.get k = bytes.getD (h.prgStart + k) 0 :=
  get_ofBytes_stretch bytes _ _ hk

/-- The graphics ROM of an image with a graphics bank: the stretch after the program ROM (R624). -/
theorem get_cartridge_reset_chr (h : Header) (bytes : List Byte) {k : Nat}
    (hk : k < h.chrBanks * 8192) : (h.cartridge bytes).reset.chr.get k =
      bytes.getD (h.prgStart + h.prgBanks * 16384 + k) 0 := by
  have rom : (h.cartridge bytes).chrIsRam = false := beq_eq_false_iff_ne.2 (by
    show h.chrBanks ≠ 0
    omega)
  have stretch := get_ofBytes_stretch bytes (h.prgStart + h.prgBanks * 16384) _ hk
  rw [← List.drop_drop] at stretch
  rwa [Cartridge.reset, rom]

/-- Without a graphics bank graphics memory is RAM, and zero after a reset (R635, R740). -/
theorem get_reset_chr_of_ram {c : Cartridge} (h : c.chrBanks = 0) (k : Nat) :
    c.reset.chr.get k = 0x00 := by
  have ram : c.chrIsRam = true := beq_iff_eq.2 h
  rw [Cartridge.reset, ram]
  rfl

/-- The program RAM of an image is empty, with or without battery (R632, R740). -/
theorem cartridge_reset_prgRam (h : Header) (bytes : List Byte) :
    (h.cartridge bytes).reset.prgRam = some [] := by
  cases hb : h.battery <;> simp [Cartridge.reset, Header.cartridge, hb, config]

/-- Settles O56: the checks of `parseGame` in order, and `hostReset` of the cartridge of a good image. -/
theorem loadFailures : Obligations.LoadFailures := by
  intro bytes s b magic version need body id e
  have hmagic : (parseHeader bytes).magicOk = true ↔ magic := magicOk_iff bytes
  have hversion : (parseHeader bytes).version = 2 ↔ version = 2 := version_iff bytes
  have hid : (parseHeader bytes).mapperId = id := mapperId_eq bytes
  have hbody : (parseHeader bytes).bodyOk bytes.length = true ↔ body := by
    rw [bodyOk_iff, prgStart_eq]
    rfl
  have failed {err : LoadError} (h : parseGame bytes = .error err) : e = some err := by
    simp only [e, hostLoad_error h]
  refine ⟨hostLoad_st_of_error, fun h => ?_, fun h hv => ?_, fun h hv hb => ?_,
    fun h hv hb hi => ?_, fun h hv hb hi => ?_⟩
  · exact failed (parseGame_badMagic (hmagic.not.2 h))
  · exact failed (parseGame_unsupportedVersion (hmagic.2 h) (hversion.2 hv))
  · exact failed (parseGame_badBody (hmagic.2 h) (hversion.not.2 hv) (hbody.not.2 hb))
  · rw [← hid] at hi ⊢
    exact failed (parseGame_unsupportedMapper (hmagic.2 h) (hversion.not.2 hv) (hbody.2 hb)
      (construct_eq_none hi))
  · let c := (parseHeader bytes).cartridge bytes
    obtain ⟨m, hm, hreset⟩ := construct_eq_some c hi
    have loaded := hostLoad_ok (parseGame_ok (hmagic.2 h) (hversion.not.2 hv) (hbody.2 hb)
      (hid.symm ▸ hm)) s
    have attached : (hostLoad bytes s).st = hostReset { s with cart := c, mapper := m } := by
      rw [loaded]
    have cart : (hostLoad bytes s).st.cart = c.reset := by rw [attached, hostReset_eq]
    have mapper : (hostLoad bytes s).st.mapper = m.reset c := by rw [attached, hostReset_eq]
    have start := prgStart_eq bytes
    simp only [cart, mapper]
    refine ⟨by simp only [e, loaded], ⟨rfl, fun k hk => ?_⟩, ⟨rfl, fun k hk => ?_⟩,
      fun h0 k => get_reset_chr_of_ram h0 k, rfl, ⟨[], cartridge_reset_prgRam _ _, fun _ => rfl⟩,
      mirroring_eq bytes, battery_eq bytes, hreset,
      attached.trans (hostReset_of_reset s c m).symm, m, hm, rfl, construct_mirroring hm⟩
    · rw [← start]
      exact get_cartridge_prgRom (parseHeader bytes) bytes hk
    · rw [← start]
      exact get_cartridge_reset_chr (parseHeader bytes) bytes hk

end Sys2Proof.Machine
end

section
/-! PROOFS. The words of the opcode matrix, and the CPU bus seen from one address: work RAM with its
mirrors, open bus, the controller ports; and the palette of the video bus. -/

namespace Sys2Proof.Machine

/-- Settles O1: the table entry of each opcode byte, with its operand bytes. -/
theorem decodeWrittenWords : Obligations.DecodeWrittenWords :=
  ⟨rfl, rfl, rfl, rfl, rfl, rfl, rfl, rfl, rfl, rfl, rfl, rfl⟩

/-! ### Work RAM (R82) -/

/-- Settles O35: the four mirrors of a byte have one offset. -/
theorem workRamMirrors : Obligations.WorkRamMirrors := by
  intro a b v s ha hb
  have written : wr a v s = { s with ram := s.ram.set (a.toNat % 2048) v } := by
    rw [wr_ram ha, ramOffset_eq]
  have read (t : State) : peek b t = t.ram.get (b.toNat % 2048) := by
    rw [peek_ram hb, ramOffset_eq]
  refine ⟨by rw [peek_ram ha, ramOffset_eq], afterRd_placeable (readEffect_ram ha s), written,
    fun hwf => ?_⟩
  rw [written, read, read, Memory.get_set hwf]
  simp only [eq_comm]

/-! ### Open bus (R89, R90, R633) -/

/-- Nothing answers a read of `a`: no device, and no program RAM. -/
def ReadsOpenBus (a : Word) (s : State) : Prop :=
  readDest a = .open ∨ readDest a = .prgRam ∧ prgRamAnswering s.cart s.mapper = none

theorem prgRamAnswering_eq_none {c : Cartridge} {m : Mapper}
    (h : c.prgRam = none ∨ m.prgRamEnabled = false) : prgRamAnswering c m = none := by
  unfold prgRamAnswering
  obtain h | h := h <;> simp [h]

theorem readDest_open {a : Word} (h : (0x4000 ≤ a.toNat ∧ a.toNat ≤ 0x4014) ∨
    (0x4018 ≤ a.toNat ∧ a.toNat ≤ 0x5FFF)) : readDest a = .open := by
  unfold readDest
  iterate 5 rw [if_neg (by omega)]
  rw [if_pos (by omega)]

theorem readDest_prgRam {a : Word} (h : 0x6000 ≤ a.toNat) (h' : a.toNat ≤ 0x7FFF) :
    readDest a = .prgRam := by
  unfold readDest
  iterate 6 rw [if_neg (by omega)]
  rw [if_pos h']

theorem writeDest_nowhere {a : Word} (h : 0x4018 ≤ a.toNat) (h' : a.toNat ≤ 0x5FFF) :
    writeDest a = .nowhere := by
  unfold writeDest
  iterate 5 rw [if_neg (by omega)]
  rw [if_pos h']

theorem writeDest_prgRam {a : Word} (h : 0x6000 ≤ a.toNat) (h' : a.toNat ≤ 0x7FFF) :
    writeDest a = .prgRam := by
  unfold writeDest
  iterate 6 rw [if_neg (by omega)]
  rw [if_pos h']

theorem writeDest_oamDma {a : Word} (h : writeDest a = .oamDma) : a = 0x4014 := by
  by_contra hne
  have : ¬ a.toNat = 0x4014 := fun e => hne (BitVec.eq_of_toNat_eq e)
  unfold writeDest at h
  (repeat' split at h) <;> contradiction

/-- An unanswered read returns the latch and changes nothing. -/
theorem ReadsOpenBus.peek_afterRd {a : Word} {s : State} (h : ReadsOpenBus a s) :
    peek a s = s.busLatch ∧ afterRd a s = s := by
  have value : peek a s = s.busLatch := by
    obtain h | ⟨h, hnone⟩ := h
    · simp only [peek, h]
    · simp only [peek, h, readPrgRam, hnone, Option.map_none, Option.getD_none]
  have effect : readEffect a s = s := by
    obtain h | ⟨h, -⟩ := h <;> simp only [readEffect, h]
  exact ⟨value, by rw [afterRd, effect, value]⟩

/-- Whether anything answers does not change by a read. -/
theorem ReadsOpenBus.after_read {a : Word} {s : State} (h : ReadsOpenBus a s) (b : Word) :
    ReadsOpenBus a (afterRd b s) := by
  unfold ReadsOpenBus
  rwa [afterRd_cart, afterRd_mapper]

/-- No write but the object-memory copy, which reads, changes the latch (R94). -/
theorem wr_busLatch {a : Word} (h : a ≠ 0x4014) (v : Byte) (s : State) :
    (wr a v s).busLatch = s.busLatch := by
  unfold wr
  split
  case h_2 n _ =>
    obtain ⟨_, _, _, _, e, -⟩ := ppuRegWrite_cases n v s
    rw [e]
  case h_3 hdest => exact absurd (writeDest_oamDma hdest) h
  all_goals rfl

/-- Settles O36: an unmapped read is unanswered in every state that a read can leave. -/
theorem openBus : Obligations.OpenBus := by
  intro a b v s unmapped
  refine ⟨fun h => ?_, fun h hw => ?_, afterRd_busLatch b s, fun h => wr_busLatch h v s⟩
  · have hopen : ReadsOpenBus a s := by
      obtain h | h | ⟨h, h', hnone⟩ := h
      · exact .inl (readDest_open (.inl h))
      · exact .inl (readDest_open (.inr h))
      · exact .inr ⟨readDest_prgRam h h', prgRamAnswering_eq_none hnone⟩
    obtain ⟨value, effect⟩ := hopen.peek_afterRd
    exact ⟨value, effect, (hopen.after_read b).peek_afterRd.1⟩
  · obtain h | ⟨h, h'⟩ | ⟨h, h', hnone⟩ := h
    · omega
    · simp only [wr, writeDest_nowhere h h']
    · simp only [wr, writeDest_prgRam h h', writePrgRam, prgRamAnswering_eq_none hnone]

/-! ### The controller ports (R714, R715) -/

/-- The values of `n` reads of a port. -/
def portReads (strobe : Bool) : Nat → Port → List Byte
  | 0, _ => []
  | n + 1, q => q.value strobe :: portReads strobe n (q.next strobe)

/-- Reads of an address that shows the port `port` read the port. -/
theorem readsOf_port {a : Word} (port : State → Port)
    (hpeek : ∀ s, peek a s = (port s).value s.ctlStrobe)
    (hnext : ∀ s, port (afterRd a s) = (port s).next s.ctlStrobe) (n : Nat) (s : State) :
    (readsOf a n s).1 = portReads s.ctlStrobe n (port s) := by
  induction n generalizing s with
  | zero => rfl
  | succ n ih => rw [readsOf, ih, afterRd_ctlStrobe, hnext, hpeek, portReads]

theorem readsOf_port0 (n : Nat) (s : State) :
    (readsOf 0x4016 n s).1 = portReads s.ctlStrobe n s.ctl0 :=
  readsOf_port State.ctl0 (fun _ => rfl) (fun _ => rfl) n s

theorem readsOf_port1 (n : Nat) (s : State) :
    (readsOf 0x4017 n s).1 = portReads s.ctlStrobe n s.ctl1 :=
  readsOf_port State.ctl1 (fun _ => rfl) (fun _ => rfl) n s

/-- A button as a port shows it: bit `k` of the mask, in bit 0. -/
def buttonByte (mask : Byte) (k : Nat) : Byte := if mask.getLsbD k then 1 else 0

theorem shiftRight_and_one (mask : Byte) (k : Nat) : (mask >>> k) &&& 1#8 = buttonByte mask k := by
  rw [BitVec.and_one_eq_setWidth_ofBool_getLsbD, BitVec.getLsbD_ushiftRight, Nat.add_zero, buttonByte]
  cases mask.getLsbD k <;> rfl

/-- While the strobe is high a port shows the first button and does not shift. -/
theorem portReads_high (mask : Byte) (r n : Nat) :
    portReads true n ⟨mask, r⟩ = List.replicate n (buttonByte mask 0) := by
  induction n with
  | zero => rfl
  | succ n ih =>
    have value : (⟨mask, r⟩ : Port).value true = buttonByte mask 0 := shiftRight_and_one mask 0
    rw [portReads, value, List.replicate_succ, ← ih]
    rfl

/-- With the strobe low, a port that has been read `k` times shows the other buttons up to the eighth,
then 1. -/
theorem portReads_low (mask : Byte) {k n : Nat} (h : k + n = 8) :
    portReads false (n + 1) ⟨mask >>> k, k⟩ = (List.range' k n).map (buttonByte mask) ++ [1] := by
  induction n generalizing k with
  | zero =>
    obtain rfl : k = 8 := by omega
    rfl
  | succ n ih =>
    have hk : k < 8 := by omega
    have value : (⟨mask >>> k, k⟩ : Port).value false = buttonByte mask k := by
      simp [Port.value, hk, shiftRight_and_one]
    have next : (⟨mask >>> k, k⟩ : Port).next false = ⟨mask >>> (k + 1), k + 1⟩ := by
      simp [Port.next, hk, BitVec.shiftRight_add]
    rw [portReads, value, next, ih (by omega)]
    rfl

theorem portReads_nine (mask : Byte) :
    portReads false 9 ⟨mask, 0⟩ = (List.range 8).map (buttonByte mask) ++ [1] := by
  simpa [List.range_eq_range'] using portReads_low mask (k := 0) (n := 8) rfl

/-- Settles O53: a strobe write puts the masks into the ports, with no read counted. -/
theorem controllerReads : Obligations.ControllerReads := by
  intro s v t m0 m1 button all
  have strobe : t.ctlStrobe = v.getLsbD 0 := rfl
  have port0 : t.ctl0 = ⟨m0, 0⟩ := congrArg (Port.mk · 0) (buttons_eq m0)
  have port1 : t.ctl1 = ⟨m1, 0⟩ := congrArg (Port.mk · 0) (buttons_eq m1)
  refine ⟨strobe, rfl, fun hlow => ?_, fun hhigh n => ?_⟩
  · rw [readsOf_port0, readsOf_port1, port0, port1, strobe, hlow]
    exact ⟨portReads_nine m0, portReads_nine m1⟩
  · rw [readsOf_port0, readsOf_port1, port0, port1, strobe, hhigh]
    exact ⟨portReads_high m0 0 n, portReads_high m1 0 n⟩

/-! ### The palette (R105) -/

/-- An entry read after an entry was written. -/
theorem palGet_palSet (pal : Vector (BitVec 6) 32) (i j : BitVec 5) (c : BitVec 6) :
    palGet (palSet pal i c) j = if paletteIndex i = paletteIndex j then c else palGet pal j := by
  simp only [palGet, palSet, Vector.get_eq_getElem, Vector.getElem_set, BitVec.toNat_eq]
  rfl

/-- The palette holds the low six bits of a byte. -/
theorem setWidth_bits_six (v : Byte) : (bits v 0 6).setWidth 8 = v &&& 0x3F := by
  refine BitVec.eq_of_getLsbD_eq fun i hi => ?_
  interval_cases i <;> simp [bits]

theorem toNat_bits_five (a : VAddr) : (bits a 0 5).toNat = a.toNat % 32 := by
  simp [bits]

/-- The entry number over the integers. -/
theorem toNat_paletteIndex (i : BitVec 5) : (paletteIndex i).toNat =
    if i.toNat = 0x10 ∨ i.toNat = 0x14 ∨ i.toNat = 0x18 ∨ i.toNat = 0x1C then i.toNat - 0x10
    else i.toNat := by
  unfold paletteIndex
  simp only [BitVec.toNat_eq, BitVec.reduceToNat]
  split
  · bv_omega
  · rfl

/-- Settles O40: a palette address stands for the entry that `paletteIndex` makes of its low five
bits. -/
theorem paletteMirrors : Obligations.PaletteMirrors := by
  intro s a b v ha hb entry
  have hentry (x : VAddr) : (paletteIndex (bits x 0 5)).toNat = entry x := by
    rw [toNat_paletteIndex, toNat_bits_five]
  have written : ppuWr a v s =
      { s with ppu := { s.ppu with pal := palSet s.ppu.pal (bits a 0 5) (bits v 0 6) } } := by
    rw [ppuWr, if_neg (by omega), if_neg (by omega)]
  have read (t : State) : ppuRd b t = (palGet t.ppu.pal (bits b 0 5)).setWidth 8 := by
    rw [ppuRd, if_neg (by omega), if_neg (by omega)]
  rw [written, read, read, palGet_palSet, apply_ite (BitVec.setWidth 8), setWidth_bits_six]
  simp only [BitVec.toNat_eq, hentry]

end Sys2Proof.Machine
end

section
/-! PROOFS. What reaches memory: a bus write stores the one byte that its address names, and an
instruction, its CPU registers aside, makes of the machine what its reads and its stores make of it
(`exec_stored`). -/

namespace Sys2Proof.Machine

/-! ### Stores and read-modify-writes (R200, R220) -/

/-- The instructions that store take no page-cross cycle (R154). -/
theorem pagePenalty_of_storer {i : Instr} (h : i.mnemonic ∈ storers) :
    pagePenalty i.opcode = false := by
  have table (i : Instr) : i.mnemonic ∈ storers → pagePenalty i.opcode = false := by
    cases i <;> dsimp only [Instr.mnemonic, Instr.opcode] <;> decide +kernel
  exact table i h

theorem endInstr_eq_finish (i : Instr) (crossed : Bool) (s : State) :
    endInstr i.operand i.opcode crossed s = finish i crossed s := by
  unfold endInstr finish instrCycles
  cases pagePenalty i.opcode <;> cases crossed <;> rfl

theorem finish_of_no_penalty {i : Instr} (h : pagePenalty i.opcode = false) (crossed : Bool)
    (s : State) : finish i crossed s = finish i false s := by
  simp only [finish, instrCycles, h, Bool.and_false]

/-- Settles O16: the template of the stores. -/
theorem storesWriteTheirAddress : Obligations.StoresWriteTheirAddress := by
  intro i s v h
  have storer : i.mnemonic ∈ storers := by
    obtain ⟨h, -⟩ | ⟨h, -⟩ | ⟨h, -⟩ | ⟨h, -⟩ := h <;> rw [h] <;> decide
  refine ⟨pagePenalty_of_storer storer, ?_⟩
  rw [exec_eq_run, ← endInstr_eq_finish]
  obtain ⟨h, rfl⟩ | ⟨h, rfl⟩ | ⟨h, rfl⟩ | ⟨h, rfl⟩ := h <;> rw [h] <;> rfl

theorem storeOperand_memory {o : Operand} (h : o ≠ .acc) (ea : Word) (v : Byte) (s : State) :
    storeOperand o ea v s = wr ea v s := by
  cases o
  case acc => exact absurd rfl h
  all_goals rfl

theorem operand_ne_acc {i : Instr} (h : i.mnemonic ∉ [.ASL, .LSR, .ROL, .ROR]) : i.operand ≠ .acc :=
  fun ho => h (shift_of_operand_acc ho)

/-- An instruction that counts a byte of memory: `result` of it is written back, and Z and N follow. -/
theorem exec_counts {i : Instr} {result : Byte → State → Byte}
    (h : templateOf i.mnemonic = .modifies result incFlags) (hs : i.mnemonic ∈ storers)
    (ho : i.operand ≠ .acc) (s : State) :
    let m := fetchOperand i.operand s
    let r := result m.value m.st
    exec i s = .next (finish i m.crossed { wr m.ea r m.st with p := setZN r s.p }) := by
  intro m r
  have flags : (storeOperand i.operand m.ea r m.st).p = s.p := by
    rw [storeOperand_memory ho, wr_p, fetchOperand_p]
  rw [exec_eq_run, h, finish_of_no_penalty (pagePenalty_of_storer hs), ← endInstr_eq_finish, ← flags,
    ← storeOperand_memory ho]
  rfl

/-- Settles O13: the two instructions that count a byte of memory. -/
theorem incrementAndDecrementMemory : Obligations.IncrementAndDecrementMemory := by
  intro i s m r h
  refine ⟨setZN r s.p, setZN_flagsAre r s.p, ?_⟩
  obtain ⟨hm, hr⟩ | ⟨hm, hr⟩ := h
  · obtain rfl : incResult m.value m.st = r := BitVec.eq_of_toNat_eq (by
      rw [hr, incResult, BitVec.toNat_add]
      rfl)
    exact exec_counts (by rw [hm]; rfl) (by rw [hm]; decide) (operand_ne_acc (by rw [hm]; decide)) s
  · obtain rfl : decResult m.value m.st = r := BitVec.eq_of_toNat_eq (by
      rw [hr, decResult, BitVec.toNat_sub, Nat.add_comm]
      rfl)
    exact exec_counts (by rw [hm]; rfl) (by rw [hm]; decide) (operand_ne_acc (by rw [hm]; decide)) s

/-! ### Where a bus write stores (R85, R106) -/

theorem storageByte_afterRd (sp : Space) (k : Nat) (a : Word) (s : State) :
    storageByte sp k (afterRd a s) = storageByte sp k s := by
  cases sp <;> simp [storageByte]

theorem storageByte_oamPut {sp : Space} (h : sp ≠ .oam) (k : Nat) (v : Byte) (s : State) :
    storageByte sp k { s with ppu := s.ppu.oamPut v } = storageByte sp k s := by
  cases sp
  case oam => exact absurd rfl h
  all_goals rfl

/-- The copy stores to object memory only (R710). -/
theorem storageByte_oamDma {sp : Space} (h : sp ≠ .oam) (k : Nat) (d : Byte) (s : State) :
    storageByte sp k (oamDma d s) = storageByte sp k s := by
  have stalled (t : State) (n : Nat) : storageByte sp k { t with stall := n } = storageByte sp k t := by
    cases sp <;> rfl
  unfold oamDma
  exact (stalled _ _).trans <| oamCopy_keeps_of (P := fun t => storageByte sp k t = storageByte sp k s)
    (fun a hs => (storageByte_afterRd sp k a _).trans hs)
    (fun v hs => (storageByte_oamPut h k v _).trans hs) d 256 rfl

theorem wf_of_storeOk {size : Nat} {m : Memory} (h : storeOk size m = true) : m.wf = true := by
  simp only [storeOk, Bool.and_eq_true] at h
  exact h.1

/-- The storage byte that `PpuWr(a, _)` stores to (R106). -/
def videoStoresTo (a : VAddr) (s : State) (sp : Space) (k : Nat) : Prop :=
  if a.toNat ≤ 0x1FFF then s.cart.chrIsRam = true ∧ sp = .chr ∧ k = chrOffset s.cart s.mapper a
  else if a.toNat ≤ 0x3EFF then sp = .vram ∧ k = nametableOffset s a
  else sp = .pal ∧ paletteIndex (BitVec.ofNat 5 k) = paletteIndex (BitVec.ofNat 5 a.toNat)

theorem bits_five_eq_ofNat (a : VAddr) : bits a 0 5 = BitVec.ofNat 5 a.toNat :=
  BitVec.eq_of_toNat_eq (by rw [toNat_bits_five, BitVec.toNat_ofNat])

theorem storageByte_ppuWr_other {a : VAddr} {s : State} {sp : Space} {k : Nat}
    (h : ¬ videoStoresTo a s sp k) (v : Byte) :
    storageByte sp k (ppuWr a v s) = storageByte sp k s := by
  unfold videoStoresTo at h
  unfold ppuWr
  split
  · next hchr =>
    rw [if_pos hchr] at h
    unfold writeChrRom
    split
    · next hram =>
      cases sp
      case chr => exact Memory.get_set_other (fun hk => h ⟨hram, rfl, hk⟩) v _
      all_goals rfl
    · rfl
  · next hchr =>
    rw [if_neg hchr] at h
    split
    · next hvram =>
      rw [if_pos hvram] at h
      cases sp
      case vram => exact Memory.get_set_other (fun hk => h ⟨rfl, hk⟩) v _
      all_goals rfl
    · next hvram =>
      rw [if_neg hvram] at h
      cases sp
      case pal =>
        simp only [storageByte, palGet_palSet, bits_five_eq_ofNat]
        rw [if_neg fun hk => h ⟨rfl, hk.symm⟩]
      all_goals rfl

theorem storageByte_ppuWr_same {a : VAddr} {s : State} {sp : Space} {k : Nat}
    (hmem : memoriesOk s = true) (h : videoStoresTo a s sp k) (v : Byte) :
    storageByte sp k (ppuWr a v s) = if sp = .pal then v &&& 0x3F else v := by
  obtain ⟨-, hvramOk, -, -, hchrOk, -⟩ := (memoriesOk_iff s).1 hmem
  unfold videoStoresTo at h
  unfold ppuWr
  split
  · next hchr =>
    rw [if_pos hchr] at h
    obtain ⟨hram, rfl, rfl⟩ := h
    rw [writeChrRom, if_pos hram]
    exact Memory.get_set_same (wf_of_storeOk hchrOk) _ v
  · next hchr =>
    rw [if_neg hchr] at h
    split
    · next hvram =>
      rw [if_pos hvram] at h
      obtain ⟨rfl, rfl⟩ := h
      exact Memory.get_set_same (wf_of_storeOk hvramOk) _ v
    · next hvram =>
      rw [if_neg hvram] at h
      obtain ⟨rfl, hk⟩ := h
      simp only [storageByte, palGet_palSet, bits_five_eq_ofNat, hk, if_true, setWidth_bits_six]

/-- The storage byte that a write of register `n` of the video unit stores to (R456). -/
def videoRegStoresTo (n : BitVec 3) (s : State) (sp : Space) (k : Nat) : Prop :=
  (n = 4 ∧ sp = .oam ∧ k = s.ppu.oamAddr.toNat) ∨ (n = 7 ∧ videoStoresTo s.ppu.vaddr s sp k)

/-- Of the video unit only object memory and the palette are storage. -/
theorem storageByte_withPpu {s : State} {p : Ppu} (ho : p.oam = s.ppu.oam) (hp : p.pal = s.ppu.pal)
    (sp : Space) (k : Nat) : storageByte sp k { s with ppu := p } = storageByte sp k s := by
  cases sp <;> simp only [storageByte, ho, hp]

/-- A write of the data register is a write of the video bus (R467). -/
theorem storageByte_writeData (sp : Space) (k : Nat) (d : Byte) (s : State) :
    storageByte sp k (writeData d s) = storageByte sp k (ppuWr s.ppu.vaddr d s) :=
  storageByte_withPpu rfl rfl sp k

theorem storageByte_ppuRegWrite_other {n : BitVec 3} {s : State} {sp : Space} {k : Nat}
    (h : ¬ videoRegStoresTo n s sp k) (v : Byte) :
    storageByte sp k (ppuRegWrite n v s) = storageByte sp k s := by
  let latched : State := { s with ppu := { s.ppu with ioLatch := v } }
  have hlatched : storageByte sp k latched = storageByte sp k s := storageByte_withPpu rfl rfl sp k
  rw [← hlatched]
  unfold ppuRegWrite
  split
  case h_4 hn =>
    cases sp
    case oam =>
      exact Memory.get_set_other (fun hk => h (.inl ⟨BitVec.eq_of_toNat_eq hn, rfl, hk⟩)) v _
    all_goals rfl
  case h_5 =>
    refine storageByte_withPpu ?_ ?_ sp k <;> unfold Ppu.writeScroll <;> split <;> rfl
  case h_6 =>
    refine storageByte_withPpu ?_ ?_ sp k <;> unfold Ppu.writeAddr <;> split <;> rfl
  case h_7 hn =>
    rw [storageByte_writeData]
    have other : ¬ videoStoresTo s.ppu.vaddr latched sp k :=
      fun hv => h (.inr ⟨BitVec.eq_of_toNat_eq hn, hv⟩)
    exact storageByte_ppuWr_other other v
  all_goals cases sp <;> rfl

theorem storageByte_ppuRegWrite_same {n : BitVec 3} {s : State} {sp : Space} {k : Nat}
    (hmem : memoriesOk s = true) (h : videoRegStoresTo n s sp k) (v : Byte) :
    storageByte sp k (ppuRegWrite n v s) = if sp = .pal then v &&& 0x3F else v := by
  obtain ⟨rfl, rfl, rfl⟩ | ⟨rfl, h⟩ := h
  · obtain ⟨-, -, hoamOk, -⟩ := (memoriesOk_iff s).1 hmem
    exact Memory.get_set_same (wf_of_storeOk hoamOk) _ v
  · let latched : State := { s with ppu := { s.ppu with ioLatch := v } }
    exact (storageByte_writeData sp k v latched).trans
      (storageByte_ppuWr_same (s := latched) hmem h v)

theorem storageByte_writePrgRam_other {s : State} {a : Word} {sp : Space} {k : Nat}
    (h : ¬ (s.mapper.prgRamEnabled = true ∧ sp = .prgRam ∧ k = prgRamOffset a)) (v : Byte) :
    storageByte sp k { s with cart := writePrgRam s.cart s.mapper a v } = storageByte sp k s := by
  unfold writePrgRam
  split
  · next ram hram =>
    obtain ⟨hen, hcart⟩ : s.mapper.prgRamEnabled = true ∧ s.cart.prgRam = some ram := by
      simpa [prgRamAnswering] using hram
    cases sp
    case prgRam =>
      simp only [storageByte, hcart, Option.getD_some]
      exact Memory.get_set_other (fun hk => h ⟨hen, rfl, hk⟩) v ram
    all_goals rfl
  · rfl

theorem storageByte_writePrgRam_same {s : State} {a : Word} (hmem : memoriesOk s = true)
    (hen : s.mapper.prgRamEnabled = true) (hram : s.cart.prgRam.isSome = true) (v : Byte) :
    storageByte .prgRam (prgRamOffset a) { s with cart := writePrgRam s.cart s.mapper a v } = v := by
  obtain ⟨-, -, -, -, -, hramOk⟩ := (memoriesOk_iff s).1 hmem
  obtain ⟨ram, hcart⟩ := Option.isSome_iff_exists.1 hram
  simp only [storageByte, writePrgRam, prgRamAnswering, hen, hcart, if_true, Option.getD_some]
  exact Memory.get_set_same (wf_of_storeOk (hramOk ram hcart)) _ v

/-- A bus write leaves every storage byte that its address does not name. -/
theorem storageByte_wr_other {a : Word} {s : State} {sp : Space} {k : Nat}
    (h : ¬ storesTo a s sp k) (v : Byte) : storageByte sp k (wr a v s) = storageByte sp k s := by
  cases hdest : writeDest a <;> simp only [storesTo, hdest] at h <;> simp only [wr, hdest]
  case ram o =>
    cases sp
    case ram => exact Memory.get_set_other (fun hk => h ⟨rfl, hk⟩) v _
    all_goals rfl
  case ppuReg n => exact storageByte_ppuRegWrite_other h v
  case oamDma => exact storageByte_oamDma h k v s
  case prgRam => exact storageByte_writePrgRam_other h v
  case strobe | apuReg | prgRom => cases sp <;> rfl

/-- In canonical memories a bus write stores its byte where its address names one. -/
theorem storageByte_wr_same {a : Word} {s : State} {sp : Space} {k : Nat} (hmem : memoriesOk s = true)
    (h : storesTo a s sp k) (ha : a ≠ 0x4014) (hram : sp = .prgRam → s.cart.prgRam.isSome = true)
    (v : Byte) : storageByte sp k (wr a v s) = if sp = .pal then v &&& 0x3F else v := by
  cases hdest : writeDest a <;> simp only [storesTo, hdest] at h <;> simp only [wr, hdest]
  case ram o =>
    obtain ⟨rfl, rfl⟩ := h
    obtain ⟨hramOk, -⟩ := (memoriesOk_iff s).1 hmem
    exact Memory.get_set_same (wf_of_storeOk hramOk) _ v
  case ppuReg n => exact storageByte_ppuRegWrite_same hmem h v
  case oamDma => exact absurd (writeDest_oamDma hdest) ha
  case prgRam =>
    obtain ⟨hen, rfl, rfl⟩ := h
    exact storageByte_writePrgRam_same hmem hen (hram rfl) v

/-- Settles O34: the storage byte that the address names, every other one, and the registers. -/
theorem writesStoreTheByte : Obligations.WritesStoreTheByte := by
  intro a v s hmem
  exact ⟨fun sp k h => storageByte_wr_other h v,
    fun sp k h ha hram => storageByte_wr_same hmem h ha hram v,
    wr_a a v s, wr_x a v s, wr_y a v s, wr_sp a v s, wr_pc a v s, wr_p a v s, wr_cyc a v s⟩

/-! ### What an instruction makes of memory and devices (R112, R113) -/

/-- `t` is `s` but for the registers of the CPU, PC, the cycle count and `bus_latch`. -/
def SameButRegisters (s t : State) : Prop :=
  t = { s with
    a := t.a, x := t.x, y := t.y, sp := t.sp, pc := t.pc, p := t.p, cyc := t.cyc
    busLatch := t.busLatch }

namespace devicesReadOnly

variable {s t u : State}

theorem registers (h : SameButRegisters s t) : devicesReadOnly s t := by
  unfold SameButRegisters at h
  rw [h]
  exact ⟨rfl, rfl, rfl, rfl, rfl, rfl, rfl, rfl, rfl, rfl⟩

theorem refl (s : State) : devicesReadOnly s s := registers rfl

theorem trans (h : devicesReadOnly s t) (h' : devicesReadOnly t u) : devicesReadOnly s u := by
  obtain ⟨ppu, apu, cart, mapper, ram, vram, strobe, host, nmi, stall⟩ := h
  obtain ⟨ppu', apu', cart', mapper', ram', vram', strobe', host', nmi', stall'⟩ := h'
  exact ⟨by rw [ppu', ppu], by rw [apu', apu], cart'.trans cart, mapper'.trans mapper, ram'.trans ram,
    vram'.trans vram, strobe'.trans strobe, host'.trans host, nmi'.trans nmi, stall'.trans stall⟩

theorem ram_eq (h : devicesReadOnly s t) : t.ram = s.ram := by
  obtain ⟨-, -, -, -, e, -⟩ := h
  exact e

theorem afterRd (h : devicesReadOnly s t) (a : Word) : devicesReadOnly s (afterRd a t) := by
  obtain ⟨v, w, vb, rb, io, fi, c0, c1, e⟩ := afterRd_cases a t
  refine h.trans ?_
  rw [e]
  exact ⟨rfl, rfl, rfl, rfl, rfl, rfl, rfl, rfl, rfl, rfl⟩

/-- A fetch of the operand ends with reads only. -/
theorem resolve (o : Operand) (s : State) : devicesReadOnly s (resolve o s).st := by
  obtain ⟨b, e⟩ | ⟨w, -, e⟩ := resolve_st o s
  · exact registers (by rw [e]; rfl)
  · rw [e]
    exact ((refl s).afterRd w).afterRd _

theorem fetchOperand (o : Operand) (s : State) : devicesReadOnly s (fetchOperand o s).st := by
  cases o
  case acc | imm => exact registers rfl
  all_goals exact (resolve _ s).afterRd _

theorem nopRead (o : Operand) (s : State) : devicesReadOnly s (nopRead o (Machine.resolve o s)) := by
  unfold Machine.nopRead
  split
  · exact (resolve o s).afterRd _
  · exact resolve o s

theorem afterPull (s : State) : devicesReadOnly s (afterPull s) :=
  registers (by rw [afterPull_eq]; rfl)

theorem afterPull16 (s : State) : devicesReadOnly s (afterPull16 s) :=
  (afterPull s).trans (afterPull _)

theorem returnFromTrap (n : Nat) (s : State) : devicesReadOnly s (returnFromTrap n s) :=
  registers (by rw [returnFromTrap_eq]; rfl)

end devicesReadOnly

/-- A template that stores nothing, and whose own part changes registers only. -/
def Template.readsOnly : Template → Prop
  | .reads use => ∀ m s, devicesReadOnly s (use m s)
  | .implied act => ∀ s, devicesReadOnly s (act s)
  | .nops | .branches _ | .jumps | .returns | .trapReturns => True
  | .stores _ | .modifies .. | .calls | .traps => False

theorem Template.readsOnly.run {τ : Template} (h : τ.readsOnly) (o : Operand) (op : Byte) (s : State) :
    devicesReadOnly s (τ.run o op s) := by
  have ended (o : Operand) (op : Byte) (c : Bool) (t : State) : devicesReadOnly t (endInstr o op c t) :=
    .registers rfl
  have jumped (w : Word) (n : Nat) (t : State) : devicesReadOnly t (retireTo w n t) := .registers rfl
  cases τ with
  | reads use => exact (devicesReadOnly.fetchOperand o s).trans ((h _ _).trans (ended ..))
  | implied act => exact (h s).trans (ended ..)
  | nops => exact (devicesReadOnly.nopRead o s).trans (ended ..)
  | branches taken => exact jumped ..
  | jumps => exact (devicesReadOnly.resolve o s).trans (jumped ..)
  | returns => exact (devicesReadOnly.afterPull16 s).trans (jumped ..)
  | trapReturns => exact devicesReadOnly.returnFromTrap _ s
  | stores | modifies | calls | traps => exact h.elim

theorem templateOf_readsOnly {m : Mnemonic} (h : m ∉ storers) : (templateOf m).readsOnly := by
  cases m
  case LDA | LDX | LDY | LAX | AND | ORA | EOR | ADC | SBC | USBC | CMP | CPX | CPY | BIT =>
    exact fun _ _ => .registers rfl
  case TAX | TAY | TXA | TYA | TSX | TXS | INX | INY | DEX | DEY =>
    exact fun _ => .registers rfl
  case CLC | SEC | CLI | SEI | CLD | SED | CLV =>
    exact fun _ => .registers rfl
  case PLA | PLP => exact fun s => (devicesReadOnly.afterPull s).trans (.registers rfl)
  case NOP | UNOP | UNA | JMP | RTS | RTI => exact trivial
  case BCC | BCS | BEQ | BNE | BMI | BPL | BVC | BVS => exact trivial
  all_goals exact absurd (by decide) h

/-- The state `s` after the stores of the instruction `i`, its operand read before them: nothing, one
bus write at the effective address, or pushes. -/
inductive Stored (i : Instr) (s : State) : State → Prop
  | nothing : Stored i s s
  | write {t : State} (v : Byte) (hm : i.mnemonic ∈ storers) (hp : i.mnemonic ∉ pushers)
      (ho : i.operand ≠ .acc) (hread : devicesReadOnly s t)
      (hto : ∀ sp k, storesTo (resolve i.operand s).ea t sp k → instrStoresTo i s sp k) :
      Stored i s (wr (resolve i.operand s).ea v t)
  | push {ram : Memory} (hm : i.mnemonic ∈ storers) (ho : i.operand ≠ .acc)
      (hto : ∀ k, ¬ instrStoresTo i s .ram k → ram.get k = s.ram.get k) :
      Stored i s { s with ram := ram }

theorem stored_of_stores {i : Instr} {value : State → Byte}
    (hτ : templateOf i.mnemonic = .stores value)
    (hm : i.mnemonic ∈ storers) (hp : i.mnemonic ∉ pushers) (ho : i.operand ≠ .acc) {s t : State}
    (hto : ∀ sp k, storesTo (resolve i.operand s).ea (resolve i.operand s).st sp k →
      instrStoresTo i s sp k)
    (ht : exec i s = .next t) : ∃ u, Stored i s u ∧ devicesReadOnly u t := by
  rw [exec_next ht, hτ]
  exact ⟨_, .write (value s) hm hp ho (.resolve _ s) hto, .registers rfl⟩

theorem fetchOperand_ea (o : Operand) (s : State) : (fetchOperand o s).ea = (resolve o s).ea := by
  cases o <;> rfl

theorem stored_of_modifies {i : Instr} {result : Byte → State → Byte}
    {use : Byte → Byte → State → State} (hτ : templateOf i.mnemonic = .modifies result use)
    (huse : ∀ m r s, devicesReadOnly s (use m r s))
    (hm : i.mnemonic ∈ storers) (hp : i.mnemonic ∉ pushers) {s t : State}
    (hto : i.operand ≠ .acc → ∀ sp k,
      storesTo (fetchOperand i.operand s).ea (fetchOperand i.operand s).st sp k →
        instrStoresTo i s sp k)
    (ht : exec i s = .next t) : ∃ u, Stored i s u ∧ devicesReadOnly u t := by
  let m := fetchOperand i.operand s
  let v := result m.value m.st
  have used : devicesReadOnly (storeOperand i.operand m.ea v m.st) t := by
    rw [exec_next ht, hτ]
    exact (huse _ _ _).trans (.registers rfl)
  by_cases ho : i.operand = .acc
  · refine ⟨s, .nothing, .trans (.registers ?_) used⟩
    simp only [m, ho]
    rfl
  · rw [storeOperand_memory ho] at used
    simp only [m, fetchOperand_ea] at used hto
    exact ⟨_, .write v hm hp ho (.fetchOperand _ s) (hto ho), used⟩

/-- The reads and the stores of every instruction; the rest of it is registers. -/
theorem exec_stored {i : Instr} {s t : State} (ht : exec i s = .next t) :
    ∃ u, Stored i s u ∧ devicesReadOnly u t := by
  cases hm : i.mnemonic
  case STA | STX | STY | SAX =>
    exact stored_of_stores (by rw [hm]; rfl) (by rw [hm]; decide) (by rw [hm]; decide)
      (operand_ne_acc (by rw [hm]; decide)) (fun _ _ h => by simpa only [instrStoresTo, hm] using h) ht
  case INC | DEC | ASL | LSR | ROL | ROR | SLO | RLA | SRE | RRA | DCP | ISC =>
    exact stored_of_modifies (by rw [hm]; rfl) (by exact fun _ _ _ => .registers rfl)
      (by rw [hm]; decide) (by rw [hm]; decide)
      (fun ho _ _ h => by simpa only [instrStoresTo, hm] using ⟨ho, h⟩) ht
  case PHA | PHP =>
    obtain ⟨v, pushed⟩ : ∃ v,
        SameButRegisters { s with ram := s.ram.set (stackOffset s.sp) v } t := by
      rw [exec_next ht, hm]
      simp only [templateOf, Template.run, push_eq]
      exact ⟨_, rfl⟩
    refine ⟨_, .push (by rw [hm]; decide) (operand_ne_acc (by rw [hm]; decide)) fun k hk => ?_,
      .registers pushed⟩
    simp only [instrStoresTo, hm, true_and] at hk
    exact Memory.get_set_other hk _ _
  case JSR =>
    let high := s.ram.set (stackOffset s.sp) (hi (s.pc + 2))
    have pushed : SameButRegisters
        { s with ram := high.set (stackOffset (s.sp - 1)) (lo (s.pc + 2)) } t := by
      rw [exec_next ht, hm]
      simp only [templateOf, Template.run, push16_eq]
      rfl
    refine ⟨_, .push (by rw [hm]; decide) (operand_ne_acc (by rw [hm]; decide)) fun k hk => ?_,
      .registers pushed⟩
    simp only [instrStoresTo, hm, true_and, not_or] at hk
    obtain ⟨h1, h2⟩ := hk
    rw [Memory.get_set_other h2, Memory.get_set_other h1]
  case BRK =>
    have pushed : SameButRegisters
        { s with ram := trapFrame s.sp (s.pc + 2) (pushedPHigh s.p) s.ram } t := by
      rw [exec_next ht, hm]
      simp only [templateOf, Template.run, enterTrap_frame]
      rfl
    refine ⟨_, .push (by rw [hm]; decide) (operand_ne_acc (by rw [hm]; decide)) fun k hk => ?_,
      .registers pushed⟩
    simp only [instrStoresTo, hm, true_and, not_or] at hk
    obtain ⟨h1, h2, h3⟩ := hk
    rw [trapFrame, Memory.get_set_other h3, Memory.get_set_other h2, Memory.get_set_other h1]
  all_goals
    rw [exec_next ht]
    exact ⟨s, .nothing, (templateOf_readsOnly (by rw [hm]; decide)).run _ _ s⟩

/-- A byte of storage does not change by what reads change. -/
theorem storageByte_of_readOnly {s t : State} (h : devicesReadOnly s t) (sp : Space) (k : Nat) :
    storageByte sp k t = storageByte sp k s := by
  obtain ⟨ppu, -, cart, -, ram, vram, -⟩ := h
  cases sp <;> simp only [storageByte, ram, vram, cart] <;> rw [ppu]

/-- Settles O32: `exec_stored`, and what a bus write and a push leave. -/
theorem storageChangesOnlyWhereTheInstructionStores :
    Obligations.StorageChangesOnlyWhereTheInstructionStores := by
  intro i s t ht sp k hk
  obtain ⟨u, hu, hread⟩ := exec_stored ht
  rw [storageByte_of_readOnly hread]
  cases hu with
  | nothing => rfl
  | write v _ _ _ hfetched hto =>
    rw [storageByte_wr_other (fun h => hk (hto sp k h)), storageByte_of_readOnly hfetched]
  | push _ _ hto =>
    cases sp
    case ram => exact hto k hk
    all_goals rfl

/-- With a change of work RAM the reads leave the devices as without. -/
theorem devicesReadOnly.withRam {s t : State} (h : devicesReadOnly s t) (ram : Memory) :
    devicesReadOnly { s with ram := ram } { t with ram := ram } := by
  obtain ⟨ppu, apu, cart, mapper, -, vram, strobe, host, nmi, stall⟩ := h
  exact ⟨ppu, apu, cart, mapper, rfl, vram, strobe, host, nmi, stall⟩

/-- Settles O33: an instruction that stores nothing only reads, and a push or a write below 0x2000
changes work RAM alone. -/
theorem onlyStoresReachDevices : Obligations.OnlyStoresReachDevices := by
  intro i s t ht
  obtain ⟨u, hu, hread⟩ := exec_stored ht
  refine ⟨fun h => ?_, fun _ h => ?_⟩
  · cases hu with
    | nothing => exact hread
    | write _ hm _ ho => exact (not_or_intro (not_not_intro hm) ho h).elim
    | push hm ho => exact (not_or_intro (not_not_intro hm) ho h).elim
  · suffices ∃ ram, devicesReadOnly { s with ram := ram } t by
      obtain ⟨ram, hram⟩ := this
      rwa [hram.ram_eq]
    cases hu with
    | nothing => exact ⟨s.ram, hread⟩
    | write _ _ hp _ hfetched =>
      rw [wr_ram (h.resolve_left hp)] at hread
      exact ⟨_, (hfetched.withRam _).trans hread⟩
    | push => exact ⟨_, hread⟩

end Sys2Proof.Machine
end

section
/-! PROOFS. Encoding: each entry of the opcode table, given operand bytes, is an instruction whose encoding
is the opcode and those bytes (`encode_instr`), and every instruction is what its own entry makes of its
own operand (`instr_of_operand`). Decoding, its inverse and the fetch follow from the two. -/

namespace Sys2Proof.Machine

/-! ### The instruction that a table entry makes -/

/-- The instruction of a table entry with the operand byte `b` or the operand word `w`. -/
def formInstr : Form → Byte → Word → Instr
  | .none i, _, _ => i
  | .byte i, b, _ => i b
  | .word i, _, w => i w

/-- The operand bytes that a table entry takes, low byte first (R110, R132). -/
def formBytes : Form → Byte → Word → List Byte
  | .none _, _, _ => []
  | .byte _, b, _ => [b]
  | .word _, _, w => [lo w, hi w]

/-- The operand byte of a format that has one. -/
def operandByte : Operand → Byte
  | .imm b | .zp b | .zpx b | .zpy b | .izx b | .izy b | .rel b => b
  | .imp | .acc | .abs _ | .abx _ | .aby _ | .ind _ => 0

/-- The operand word of a format that has one. -/
def operandWord : Operand → Word
  | .abs w | .abx w | .aby w | .ind w => w
  | .imp | .acc | .imm _ | .zp _ | .zpx _ | .zpy _ | .izx _ | .izy _ | .rel _ => 0

/-- An instruction is what the entry of its opcode makes of its operand (R156). -/
theorem instr_of_operand (i : Instr) :
    formInstr (opcodeForm i.opcode) (operandByte i.operand) (operandWord i.operand) = i := by
  cases i <;> dsimp only [Instr.opcode] <;> rfl

/-- The entry of an opcode byte makes instructions with that opcode byte (R156, R164). -/
theorem opcode_formInstr_zero (op : Byte) : (formInstr (opcodeForm op) 0 0).opcode = op := by
  revert op
  decide +kernel

/-- Every opcode byte is that of some instruction, so a fact about the entries of instructions is one
about all entries. -/
theorem forall_opcode {P : Byte → Prop} (h : ∀ i : Instr, P i.opcode) (op : Byte) : P op :=
  opcode_formInstr_zero op ▸ h _

/-- The instruction of an entry is encoded as the opcode byte and the entry's operand bytes. -/
theorem encode_formInstr (op b : Byte) (w : Word) :
    encode (formInstr (opcodeForm op) b w) = op :: formBytes (opcodeForm op) b w := by
  refine forall_opcode (P := fun op => encode (formInstr (opcodeForm op) b w) =
    op :: formBytes (opcodeForm op) b w) (fun i => ?_) op
  cases i <;> dsimp only [Instr.opcode] <;> rfl

/-- The opcode byte alone fixes the mnemonic (R156, R164). -/
theorem mnemonic_formInstr (op b b' : Byte) (w w' : Word) :
    (formInstr (opcodeForm op) b w).mnemonic = (formInstr (opcodeForm op) b' w').mnemonic := by
  refine forall_opcode (P := fun op => (formInstr (opcodeForm op) b w).mnemonic =
    (formInstr (opcodeForm op) b' w').mnemonic) (fun i => ?_) op
  cases i <;> dsimp only [Instr.opcode] <;> rfl

theorem opcode_formInstr (op b : Byte) (w : Word) : (formInstr (opcodeForm op) b w).opcode = op :=
  (List.cons.inj (encode_formInstr op b w)).1

/-- An encoding has the length of the format (R134). -/
theorem length_encode (i : Instr) : (encode i).length = i.length := by
  unfold encode Instr.length
  cases i.operand <;> rfl

theorem length_formInstr (op b : Byte) (w : Word) :
    (formInstr (opcodeForm op) b w).length = (opcodeForm op).operandBytes + 1 := by
  rw [← length_encode, encode_formInstr]
  cases opcodeForm op <;> rfl

/-! ### Decoding -/

@[simp] theorem lo_word (h l : Byte) : lo (word h l) = l := BitVec.extractLsb'_append_eq_right

@[simp] theorem hi_word (h l : Byte) : hi (word h l) = h := BitVec.extractLsb'_append_eq_left

/-- Decoding an opcode byte with the operand bytes of its entry. -/
theorem decode_formBytes (op b : Byte) (w : Word) (rest : List Byte) :
    decode (op :: formBytes (opcodeForm op) b w ++ rest) =
      .ok (formInstr (opcodeForm op) b w, rest) := by
  unfold decode
  cases h : opcodeForm op <;> simp [formBytes, formInstr, h]

/-- Bytes that decode are an opcode byte with the operand bytes of its entry (R130, R164). -/
theorem decode_eq_ok {bs rest : List Byte} {i : Instr} (h : decode bs = .ok (i, rest)) :
    ∃ op b w, i = formInstr (opcodeForm op) b w ∧ bs = op :: formBytes (opcodeForm op) b w ++ rest := by
  unfold decode at h
  split at h
  · cases h
  next op tail =>
    split at h
    next j e =>
      cases h
      exact ⟨op, 0, 0, by rw [e, formInstr], by rw [e]; rfl⟩
    next j b rest' e =>
      cases h
      exact ⟨op, b, 0, by rw [e, formInstr], by rw [e]; rfl⟩
    next j l h' rest' e =>
      cases h
      exact ⟨op, 0, word h' l, by rw [e, formInstr], by simp [e, formBytes]⟩
    · cases h

/-- Settles O2: the instruction is what its own entry makes of its own operand. -/
theorem decodeOfEncode : Obligations.DecodeOfEncode := by
  intro i rest
  have h := decode_formBytes i.opcode (operandByte i.operand) (operandWord i.operand) rest
  rwa [← encode_formInstr, instr_of_operand] at h

/-- Three bytes decode by the entry of the first, which leaves those it does not take (R130, R134). -/
theorem decode_three (op b1 b2 : Byte) : ∃ i b w, i = formInstr (opcodeForm op) b w ∧
    decode [op, b1, b2] = .ok (i, [b1, b2].drop (i.length - 1)) := by
  refine ⟨_, b1, word b2 b1, rfl, ?_⟩
  rw [length_formInstr, Nat.add_sub_cancel]
  unfold decode
  cases h : opcodeForm op <;> simp [formInstr, Form.operandBytes, h]

theorem length_bounds (i : Instr) : 1 ≤ i.length ∧ i.length ≤ 3 := by
  unfold Instr.length
  cases i.operand <;> simp [Operand.length]

/-- Settles O3: bytes that decode are those of a table entry, and the entry is the opcode's. -/
theorem encodeOfDecode : Obligations.EncodeOfDecode := by
  refine ⟨fun bs rest i h => ?_, fun op b1 b2 c1 c2 => ?_⟩
  · obtain ⟨op, b, w, rfl, rfl⟩ := decode_eq_ok h
    rw [encode_formInstr]
  · obtain ⟨i, b, w, hi, di⟩ := decode_three op b1 b2
    obtain ⟨j, c, v, hj, dj⟩ := decode_three op c1 c2
    refine ⟨i, j, di, dj, ?_, ?_, ?_, ?_, length_bounds i⟩
    · rw [hi, opcode_formInstr]
    · rw [hj, opcode_formInstr]
    · rw [hi, hj, mnemonic_formInstr]
    · rw [hi, hj, length_formInstr, length_formInstr]

/-! ### Fetching (R130, R131) -/

/-- When the bytes at PC decode to an instruction, it is the one fetched, and the fetch makes the reads
of its bytes. -/
theorem fetchInstr_of_decode {s : State} {i : Instr}
    (h : decode (readBytes i.length s.pc s).1 = .ok (i, [])) :
    fetchInstr s = ⟨i, (readBytes i.length s.pc s).2⟩ := by
  obtain ⟨op, b, w, hi, hbs⟩ := decode_eq_ok h
  have hlen : i.length = (opcodeForm op).operandBytes + 1 := by rw [hi, length_formInstr]
  rw [hlen, readBytes, List.append_nil, List.cons.injEq] at hbs
  obtain ⟨hop, hbytes⟩ := hbs
  rw [hlen]
  subst hop hi
  unfold fetchInstr
  cases e : opcodeForm (peek s.pc s) with
  | none j => rfl
  | byte j =>
    rw [e] at hbytes
    obtain ⟨rfl, -⟩ := List.cons.inj hbytes
    rfl
  | word j =>
    have hnext : s.pc + 1 + 1 = s.pc + 2 := by rw [BitVec.add_assoc]; rfl
    rw [e] at hbytes
    simp only [Form.operandBytes, readBytes, formBytes, hnext, List.cons.injEq, and_true] at hbytes
    obtain ⟨hlo, hhi⟩ := hbytes
    simp only [Form.operandBytes, readBytes, formInstr, hnext, hlo, hhi, word_hi_lo]

/-- Settles O5: with nothing polled, the CPU part of the step is `exec` of the fetched instruction. -/
theorem stepRunsTheDecodedInstruction : Obligations.StepRunsTheDecodedInstruction := by
  intro s i hpoll hdecode
  refine ⟨?_, rfl, fun _ => rfl, rfl⟩
  have hcpu : cpuAdvance s = exec i (readBytes i.length s.pc s).2 := by
    unfold cpuAdvance cpuStep
    rw [hpoll, fetchInstr_of_decode hdecode]
  unfold step iterate
  rw [hcpu]
  rfl

/-! ### Cycles (R131) -/

@[simp] theorem push_cyc (v : Byte) (s : State) : (push v s).cyc = s.cyc := by rw [push_eq]

@[simp] theorem push16_cyc (w : Word) (s : State) : (push16 w s).cyc = s.cyc := by rw [push16_eq]

@[simp] theorem afterPull_cyc (s : State) : (afterPull s).cyc = s.cyc := by rw [afterPull_eq]

@[simp] theorem afterPull16_cyc (s : State) : (afterPull16 s).cyc = s.cyc := by rw [afterPull16_eq]

@[simp] theorem enterTrap_cyc (k : TrapKind) (w : Word) (n : Nat) (s : State) :
    (enterTrap k w n s).cyc = s.cyc + n := by rw [enterTrap_eq]

@[simp] theorem returnFromTrap_cyc (n : Nat) (s : State) :
    (returnFromTrap n s).cyc = s.cyc + n := by rw [returnFromTrap_eq]

@[simp] theorem storeOperand_cyc (o : Operand) (ea : Word) (v : Byte) (s : State) :
    (storeOperand o ea v s).cyc = s.cyc := by
  cases o
  case acc => rfl
  all_goals exact wr_cyc ea v s

@[simp] theorem nopRead_cyc (o : Operand) (r : Resolved) : (nopRead o r).cyc = r.st.cyc := by
  unfold nopRead
  split <;> simp

@[simp] theorem fetchInstr_cyc (s : State) : (fetchInstr s).st.cyc = s.cyc := by
  unfold fetchInstr
  split <;> simp

/-- No part of an instruction that works on the registers or the stack turns the counter back. -/
theorem templateOf_keeps_cyc (m : Mnemonic) (c : Nat) : (templateOf m).keeps (fun t => c ≤ t.cyc) := by
  cases m
  case LDA | LDX | LDY | LAX | AND | ORA | EOR | ADC | SBC | USBC | CMP | CPX | CPY | BIT =>
    exact fun _ _ h => h
  case INC | DEC | ASL | LSR | ROL | ROR | SLO | RLA | SRE | RRA | DCP | ISC =>
    exact fun _ _ _ h => h
  case TAX | TAY | TXA | TYA | TSX | TXS | INX | INY | DEX | DEY | CLC | SEC | CLI | SEI | CLD | SED
      | CLV =>
    exact fun _ h => h
  case PHA | PHP => exact fun s h => h.trans_eq (push_cyc _ s).symm
  case PLA | PLP => exact fun s h => h.trans_eq (afterPull_cyc s).symm
  case JSR => exact fun w s h => h.trans_eq (push16_cyc w s).symm
  case RTS => exact fun s h => h.trans_eq (afterPull16_cyc s).symm
  case RTI => exact fun n s h => (Nat.le_add_right_of_le h).trans_eq (returnFromTrap_cyc n s).symm
  case BRK => exact fun w n s h => (Nat.le_add_right_of_le h).trans_eq (enterTrap_cyc .brk w n s).symm
  case STA | STX | STY | SAX | NOP | UNOP | UNA | JMP | BCC | BCS | BEQ | BNE | BMI | BPL | BVC | BVS =>
    exact trivial

theorem cyc_le_endInstr {c : Nat} {s : State} (h : c ≤ s.cyc) (o : Operand) (op : Byte) (crossed : Bool) :
    c + baseCycles op ≤ (endInstr o op crossed s).cyc := by
  rw [endInstr, retire_cyc]
  omega

theorem cyc_le_retireTo {c : Nat} {s : State} (h : c ≤ s.cyc) (w : Word) (n : Nat) :
    c + n ≤ (retireTo w n s).cyc := by
  rw [retireTo_cyc]
  omega

/-- An instruction takes at least the cycles of its opcode (R131). -/
theorem cyc_le_run {τ : Template} (hτ : ∀ c, τ.keeps (fun t => c ≤ t.cyc)) (o : Operand) (op : Byte)
    (s : State) : s.cyc + baseCycles op ≤ (τ.run o op s).cyc := by
  cases τ with
  | reads use => exact cyc_le_endInstr (hτ _ _ _ (by simp)) _ _ _
  | stores value => exact cyc_le_endInstr (by simp) _ _ _
  | modifies result use => exact cyc_le_endInstr (hτ _ _ _ _ (by simp)) _ _ _
  | implied act => exact cyc_le_endInstr (hτ _ _ le_rfl) _ _ _
  | nops => exact cyc_le_endInstr (by simp) _ _ _
  | branches taken => exact (Nat.add_le_add_left (Nat.le_add_right _ _) _).trans (cyc_le_retireTo le_rfl _ _)
  | jumps => exact cyc_le_retireTo (by simp) _ _
  | calls => exact cyc_le_retireTo (hτ _ _ _ le_rfl) _ _
  | returns => exact cyc_le_retireTo (hτ _ _ le_rfl) _ _
  | trapReturns => exact (returnFromTrap_cyc _ s).ge
  | traps => exact (enterTrap_cyc .brk _ _ s).ge

theorem two_le_baseCycles (op : Byte) : 2 ≤ baseCycles op := by
  revert op
  decide +kernel

/-- The CPU part of a step has a next state, at least two cycles later. -/
theorem cpuAdvance_next (s : State) : ∃ t, cpuAdvance s = .next t ∧ s.cyc + 2 ≤ t.cyc := by
  unfold cpuAdvance
  split
  next k _ =>
    refine ⟨_, rfl, ?_⟩
    rw [interrupt_eq, enterTrap_cyc]
    exact Nat.add_le_add_left (by decide) s.cyc
  · refine ⟨_, exec_eq_run _ _, ?_⟩
    have h2 := two_le_baseCycles (fetchInstr s).instr.opcode
    have hrun := cyc_le_run (templateOf_keeps_cyc (fetchInstr s).instr.mnemonic)
      (fetchInstr s).instr.operand (fetchInstr s).instr.opcode (fetchInstr s).st
    rw [fetchInstr_cyc] at hrun
    omega

/-- Settles O6: every instruction runs its template, and the catch-up only adds cycles. -/
theorem noInstructionFaults : Obligations.NoInstructionFaults := by
  refine ⟨fun i s => ⟨_, exec_eq_run i s⟩, fun s => ?_⟩
  obtain ⟨t, ht, hcyc⟩ := cpuAdvance_next s
  refine ⟨catchUp s.cyc t, ?_, ?_⟩
  · unfold step iterate
    rw [ht]
  · rw [catchUp, runDevices_cyc]
    exact hcyc.trans (Nat.le_add_right _ _)

end Sys2Proof.Machine
end

section
/-! PROOFS. Flags, sums and shifts over the integers: the status bytes and result bytes that the model
computes are those of the statements' vocabulary. -/

namespace Sys2Proof.Machine

/-! ### The status byte after an operation -/

theorem shiftFlags_flagsAre (c : Bool) (r p : Byte) :
    flagsAre (cznOf c r) p (setZN r (putFlag .C c p)) := by
  intro f
  rw [setZN_flagsAre r _ f]
  cases f <;> simp [cznOf, znOf]

theorem cvzn_flagsAre (c ov : Bool) (r p : Byte) :
    flagsAre (cvznOf c ov r) p (setZN r (putFlag .V ov (putFlag .C c p))) := by
  intro f
  rw [setZN_flagsAre r _ f]
  cases f <;> simp [cvznOf, znOf]

theorem cmpFlags_flagsAre (r m p : Byte) : flagsAre (compareFlags r m) p (cmpFlags r m p) :=
  shiftFlags_flagsAre _ _ p

/-! ### ADC and SBC (R221, R222) -/

theorem sum9_eq_addSum (a m : Byte) (c : Bool) : sum9 a m c = addSum a m c := by
  cases c <;> rfl

theorem adcByte_eq_addResult (a m : Byte) (c : Bool) : adcByte a m c = addResult a m c := by
  rw [adcByte, sum9_eq_addSum, addResult]

theorem adcOverflow_eq (a m : Byte) (c : Bool) : adcOverflow a m c =
    (a.getLsbD 7 == m.getLsbD 7 && a.getLsbD 7 != (addResult a m c).getLsbD 7) := by
  rw [adcOverflow, adcByte_eq_addResult, BitVec.msb_and, BitVec.msb_xor, BitVec.msb_xor]
  simp only [BitVec.msb_eq_getLsbD_last]
  cases a.getLsbD 7 <;> cases m.getLsbD 7 <;> cases (addResult a m c).getLsbD 7 <;> rfl

theorem adcFlags_eq (a m p : Byte) : adcFlags a m p =
    setZN (addResult a m (getFlag .C p))
      (putFlag .V (adcOverflow a m (getFlag .C p))
        (putFlag .C (decide (0xFF < addSum a m (getFlag .C p))) p)) := by
  simp only [adcFlags, adcByte_eq_addResult, sum9_eq_addSum]

theorem adcFlags_flagsAre (a m p : Byte) :
    flagsAre (addFlags a m (getFlag .C p)) p (adcFlags a m p) := by
  rw [adcFlags_eq, adcOverflow_eq]
  exact cvzn_flagsAre _ _ _ p

/-- Bit 7 is the sign: the bytes from 128 on stand for the negative numbers. -/
theorem getLsbD_seven (v : Byte) : v.getLsbD 7 = decide (128 ≤ v.toNat) := by
  rw [← BitVec.msb_eq_getLsbD_last (x := v), BitVec.msb_eq_decide]

theorem toInt_byte (v : Byte) : v.toInt = v.toNat - if 128 ≤ v.toNat then 256 else 0 := by
  rw [BitVec.toInt_eq_toNat_cond]
  split <;> split <;> omega

theorem toNat_addResult (a m : Byte) (c : Bool) : (addResult a m c).toNat = addSum a m c % 256 :=
  BitVec.toNat_ofNat _ _

/-- The complement that `SBC` adds (R222). -/
theorem toNat_xor_ff (m : Byte) : (m ^^^ 0xFF).toNat = 255 - m.toNat := by
  have : m ^^^ 0xFF = ~~~m := BitVec.xor_allOnes
  rw [this, BitVec.toNat_not]

/-- The sum with the complement is the difference, moved up by 256. -/
theorem addSum_xor_ff (a m : Byte) (c : Bool) :
    (addSum a (m ^^^ 0xFF) c : Int) = a.toNat - m.toNat - (if c then 0 else 1) + 256 := by
  have := m.isLt
  rw [addSum, toNat_xor_ff]
  cases c <;> simp <;> omega

theorem addResult_xor_ff (a m : Byte) (c : Bool) : addResult a (m ^^^ 0xFF) c = subResult a m c := by
  have sum := addSum_xor_ff a m c
  refine BitVec.eq_of_toNat_eq ?_
  rw [addResult, subResult, subDiff, BitVec.toNat_ofNat, BitVec.toNat_ofInt, toInt_byte, toInt_byte]
  cases c <;> simp at sum ⊢ <;> omega

theorem adcOverflow_xor_ff (a m : Byte) (c : Bool) :
    adcOverflow a (m ^^^ 0xFF) c = decide (subDiff a m c < -128 ∨ 127 < subDiff a m c) := by
  have sum := addSum_xor_ff a m c
  have ha := a.isLt
  have hm := m.isLt
  rw [adcOverflow_eq, subDiff, toInt_byte, toInt_byte, Bool.eq_iff_iff]
  simp only [getLsbD_seven, toNat_xor_ff, toNat_addResult]
  cases c <;> simp at sum ⊢ <;> omega

theorem carry_xor_ff (a m : Byte) (c : Bool) :
    decide (0xFF < addSum a (m ^^^ 0xFF) c) = decide (m.toNat + (if c then 0 else 1) ≤ a.toNat) := by
  have := addSum_xor_ff a m c
  refine decide_eq_decide.mpr ?_
  cases c <;> simp at this ⊢ <;> omega

theorem sbcFlags_flagsAre (a m p : Byte) :
    flagsAre (subFlags a m (getFlag .C p)) p (adcFlags a (m ^^^ 0xFF) p) := by
  rw [adcFlags_eq, adcOverflow_xor_ff, carry_xor_ff, addResult_xor_ff]
  exact cvzn_flagsAre _ _ _ p

/-! ### Shifts (R251 to R254) -/

/-- A bit of a byte with one bit set at most. -/
theorem getLsbD_bitAt (c : Bool) {i k : Nat} (hi : i < 8) (hk : k < 8) :
    (bitAt c i).getLsbD k = (decide (k = i) && c) := by
  interval_cases i <;> interval_cases k <;> cases c <;> rfl

theorem getLsbD_aslByte (v : Byte) {k : Nat} (hk : k < 8) :
    (aslByte v).r.getLsbD k = if k = 0 then false else v.getLsbD (k - 1) := by
  rw [aslByte, BitVec.getLsbD_shiftLeft]
  by_cases h : k = 0 <;> simp [h, hk]

theorem getLsbD_rolByte (v : Byte) (c : Bool) {k : Nat} (hk : k < 8) :
    (rolByte v c).r.getLsbD k = if k = 0 then c else v.getLsbD (k - 1) := by
  have parts : (rolByte v c).r = (aslByte v).r ||| bitAt c 0 := rfl
  rw [parts, BitVec.getLsbD_or, getLsbD_aslByte v hk, getLsbD_bitAt c (by decide) hk]
  by_cases h : k = 0 <;> simp [h]

theorem getLsbD_lsrByte (v : Byte) (k : Nat) :
    (lsrByte v).r.getLsbD k = if k = 7 then false else v.getLsbD (k + 1) := by
  rw [lsrByte, BitVec.getLsbD_ushiftRight, Nat.add_comm]
  by_cases h : k = 7 <;> simp [h]

theorem getLsbD_rorByte (v : Byte) (c : Bool) {k : Nat} (hk : k < 8) :
    (rorByte v c).r.getLsbD k = if k = 7 then c else v.getLsbD (k + 1) := by
  have parts : (rorByte v c).r = (lsrByte v).r ||| bitAt c 7 := rfl
  rw [parts, BitVec.getLsbD_or, getLsbD_lsrByte v k, getLsbD_bitAt c (by decide) hk]
  by_cases h : k = 7 <;> simp [h]

theorem toNat_aslByte (v : Byte) : (aslByte v).r.toNat = 2 * v.toNat % 256 := by
  simp [aslByte, Nat.shiftLeft_eq, Nat.mul_comm]

theorem toNat_lsrByte (v : Byte) : (lsrByte v).r.toNat = v.toNat / 2 := by
  simp [lsrByte, Nat.shiftRight_eq_div_pow]

/-- The free end of a shifted byte is 0, so the carry comes in by an addition. -/
theorem rolByte_eq_add (v : Byte) (c : Bool) : (rolByte v c).r = (aslByte v).r + bitAt c 0 := by
  rw [BitVec.add_eq_or_of_and_eq_zero]
  · rfl
  · refine BitVec.eq_of_getLsbD_eq fun k hk => ?_
    rw [BitVec.getLsbD_and, getLsbD_aslByte v hk, getLsbD_bitAt c (by decide) hk]
    by_cases h : k = 0 <;> simp [h]

theorem rorByte_eq_add (v : Byte) (c : Bool) : (rorByte v c).r = (lsrByte v).r + bitAt c 7 := by
  rw [BitVec.add_eq_or_of_and_eq_zero]
  · rfl
  · refine BitVec.eq_of_getLsbD_eq fun k hk => ?_
    rw [BitVec.getLsbD_and, getLsbD_lsrByte v k, getLsbD_bitAt c (by decide) hk]
    by_cases h : k = 7 <;> simp [h]

theorem toNat_bitAt (c : Bool) {i : Nat} (hi : i < 8) : (bitAt c i).toNat = if c then 2 ^ i else 0 := by
  interval_cases i <;> cases c <;> rfl

theorem toNat_rolByte (v : Byte) (c : Bool) :
    (rolByte v c).r.toNat = (2 * v.toNat + if c then 1 else 0) % 256 := by
  rw [rolByte_eq_add, BitVec.toNat_add, toNat_aslByte, toNat_bitAt c (by decide), Nat.mod_add_mod]
  rfl

theorem toNat_rorByte (v : Byte) (c : Bool) :
    (rorByte v c).r.toNat = v.toNat / 2 + if c then 128 else 0 := by
  have := v.isLt
  rw [rorByte_eq_add, BitVec.toNat_add, toNat_lsrByte, toNat_bitAt c (by decide)]
  cases c <;> simp <;> omega

end Sys2Proof.Machine
end

section
/-! PROOFS. Effective addresses over the integers, the two jumps, and the instructions that read or modify
an operand: `exec_reads`, `exec_modifies` and `exec_nops` are their templates in the words of the
statements. -/

namespace Sys2Proof.Machine

/-! ### Effective addresses (R142 to R152) -/

theorem toNat_hi (w : Word) : (hi w).toNat = w.toNat / 256 := by
  have := w.isLt
  rw [hi_eq_ofNat, BitVec.toNat_ofNat]
  omega

theorem toNat_lo (w : Word) : (lo w).toNat = w.toNat % 256 := by
  rw [lo_eq_ofNat, BitVec.toNat_ofNat]

theorem toNat_word (h l : Byte) : (word h l).toNat = l.toNat + 256 * h.toNat := by
  have := h.isLt
  have := l.isLt
  rw [word_eq_ofNat, BitVec.toNat_ofNat]
  omega

theorem toNat_zext16 (z : Byte) : (zext16 z).toNat = z.toNat := by
  have := z.isLt
  rw [zext16, BitVec.toNat_setWidth]
  omega

theorem toNat_zext16_add (z x : Byte) : (zext16 (z + x)).toNat = (z.toNat + x.toNat) % 256 := by
  rw [toNat_zext16, BitVec.toNat_add]

theorem indexed_ea (base : Word) (index : Byte) (s : State) :
    (indexed base index s).ea.toNat = (base.toNat + index.toNat) % 65536 := by
  rw [indexed, BitVec.toNat_add, toNat_zext16]

/-- A crossing is a change of the high byte (R147). -/
theorem indexed_crossed (base : Word) (index : Byte) (s : State) :
    (indexed base index s).crossed = true ↔
      (base.toNat + index.toNat) % 65536 / 256 ≠ base.toNat / 256 := by
  have changed : (indexed base index s).crossed = true ↔ hi (indexed base index s).ea ≠ hi base :=
    bne_iff_ne
  rw [changed, Ne, BitVec.toNat_eq, toNat_hi, toNat_hi, indexed_ea]

/-- The pointer of a page-zero format, whose second byte wraps in page zero (R150, R151). -/
theorem toNat_readZpPointer (z : Byte) (s : State) : (readZpPointer z s).value.toNat =
    (s.ram.get z.toNat).toNat + 256 * (s.ram.get ((z.toNat + 1) % 256)).toNat := by
  rw [readZpPointer_eq, toNat_word, BitVec.toNat_add]
  rfl

/-- The second byte of the pointer of `JMP (ind)` lies on the page of the first (R149). -/
theorem word_hi_lo_add_one (w : Word) : word (hi w) (lo w + 1) =
    BitVec.ofNat 16 (w.toNat / 256 * 256 + (w.toNat + 1) % 256) := by
  rw [word_eq_ofNat, toNat_hi, BitVec.toNat_add, toNat_lo]
  congr 1
  simp
  omega

theorem resolve_ind_ea (w : Word) (s : State) : (resolve (.ind w) s).ea.toNat =
    (peek w s).toNat + 256 *
      (peek (BitVec.ofNat 16 (w.toNat / 256 * 256 + (w.toNat + 1) % 256)) (afterRd w s)).toNat := by
  rw [← word_hi_lo_add_one]
  exact toNat_word _ _

theorem toNat_sext16 (r : Byte) : ((sext16 r).toNat : Int) = r.toInt % 65536 := by
  have := r.isLt
  rw [sext16, BitVec.toNat_signExtend, toInt_byte, BitVec.msb_eq_decide]
  simp
  split <;> omega

/-- A branch offset is signed, from the next instruction (R152). -/
theorem resolve_rel_ea (r : Byte) (s : State) :
    ((resolve (.rel r) s).ea.toNat : Int) = (s.pc.toNat + 2 + r.toInt) % 65536 := by
  have offset := toNat_sext16 r
  have target : (resolve (.rel r) s).ea.toNat = ((s.pc.toNat + 2) % 65536 + (sext16 r).toNat) % 65536 := by
    rw [resolve, BitVec.toNat_add, BitVec.toNat_add]
    rfl
  rw [target]
  omega

theorem crossing_formats {o : Operand} {s : State} (h : (resolve o s).crossed = true) :
    (∃ v, o = .abx v) ∨ (∃ v, o = .aby v) ∨ ∃ y, o = .izy y := by
  cases o
  case abx v => exact .inl ⟨v, rfl⟩
  case aby v => exact .inr (.inl ⟨v, rfl⟩)
  case izy y => exact .inr (.inr ⟨y, rfl⟩)
  all_goals cases h

/-- A memory format reads the byte at its address (R154). -/
theorem fetchOperand_memory {o : Operand} (ha : o ≠ .acc) (hi : ∀ b, o ≠ .imm b) (s : State) :
    fetchOperand o s = ⟨peek (resolve o s).ea (resolve o s).st, (resolve o s).ea,
      (resolve o s).crossed, afterRd (resolve o s).ea (resolve o s).st⟩ := by
  cases o
  case acc => exact absurd rfl ha
  case imm b => exact absurd rfl (hi b)
  all_goals rfl

/-- Settles O7: format by format. -/
theorem effectiveAddresses : Obligations.EffectiveAddresses := by
  intro s z w
  refine ⟨toNat_zext16 z, toNat_zext16_add z s.x, toNat_zext16_add z s.y, rfl, indexed_ea w s.x s,
    indexed_crossed w s.x s, indexed_ea w s.y s, indexed_crossed w s.y s, ?_, ?_, resolve_ind_ea w s,
    resolve_rel_ea z s, fun o => crossing_formats, ⟨rfl, rfl, rfl, rfl, rfl⟩, ⟨rfl, rfl, rfl⟩,
    fun o ha hi => ?_⟩
  · have pointer := toNat_readZpPointer (z + s.x) s
    rwa [BitVec.toNat_add] at pointer
  · have pointer := toNat_readZpPointer z s
    have ea := indexed_ea (readZpPointer z s).value s.y (readZpPointer z s).st
    have crossed := indexed_crossed (readZpPointer z s).value s.y (readZpPointer z s).st
    rw [pointer] at ea crossed
    exact ⟨ea, crossed⟩
  · rw [fetchOperand_memory ha hi]
    exact ⟨rfl, rfl, rfl, rfl⟩

/-- Settles O22: a jump goes to its resolved address. -/
theorem jumpInstructions : Obligations.JumpInstructions := by
  intro s w
  refine ⟨rfl, _, resolve_ind_ea w s, ?_⟩
  have jump : exec (.jmpInd w) s = .next (retireTo (resolve (.ind w) s).ea 5
    (afterRd (word (hi w) (lo w + 1)) (afterRd w s))) := rfl
  rw [jump, word_hi_lo_add_one, retireTo, afterRd_cyc, afterRd_cyc]

/-! ### Instructions that read an operand (R200, R220) -/

theorem exec_reads {i : Instr} {use : Byte → State → State} (h : templateOf i.mnemonic = .reads use)
    (s : State) :
    let m := fetchOperand i.operand s
    exec i s = .next (finish i m.crossed (use m.value m.st)) := by
  intro m
  rw [exec_eq_run, h, ← endInstr_eq_finish]
  rfl

/-- Settles O8: the operand byte goes to the registers, and Z and N follow it. -/
theorem loadsPutTheByteInTheirRegister : Obligations.LoadsPutTheByteInTheirRegister := by
  intro i s m
  have hp : m.st.p = s.p := fetchOperand_p i.operand s
  refine ⟨setZN m.value s.p, setZN_flagsAre m.value s.p, fun h => ?_, fun h => ?_, fun h => ?_,
    fun h => ?_⟩
  all_goals
    rw [exec_reads (by rw [h]; rfl), ← hp]
    rfl

/-- A load of A with a value made of A and the operand byte. -/
theorem exec_loadsA {i : Instr} {value : Byte → Byte → Byte}
    (h : templateOf i.mnemonic = .reads fun m s => s.loadReg .A (value s.a m)) (s : State) :
    let m := fetchOperand i.operand s
    let r := value s.a m.value
    exec i s = .next (finish i m.crossed { m.st with a := r, p := setZN r s.p }) := by
  intro m r
  rw [exec_reads h, fetchOperand_a, ← fetchOperand_p i.operand s]
  rfl

/-- Settles O9: three loads of A. -/
theorem logicInstructions : Obligations.LogicInstructions := by
  intro i s m r h
  refine ⟨setZN r s.p, setZN_flagsAre r s.p, ?_⟩
  obtain ⟨hm, rfl⟩ | ⟨hm, rfl⟩ | ⟨hm, rfl⟩ := h
  · exact exec_loadsA (value := (· &&& ·)) (by rw [hm]; rfl) s
  · exact exec_loadsA (value := (· ||| ·)) (by rw [hm]; rfl) s
  · exact exec_loadsA (value := (· ^^^ ·)) (by rw [hm]; rfl) s

/-- An addition to A of a byte made of the operand byte. -/
theorem exec_adds {i : Instr} {addend : Byte → Byte}
    (h : templateOf i.mnemonic = .reads fun m s => s.adc (addend m)) (s : State) :
    let m := fetchOperand i.operand s
    let n := addend m.value
    exec i s = .next (finish i m.crossed
      { m.st with a := addResult s.a n (getFlag .C s.p), p := adcFlags s.a n s.p }) := by
  intro m n
  rw [exec_reads h, ← fetchOperand_a i.operand s, ← fetchOperand_p i.operand s,
    ← adcByte_eq_addResult]
  rfl

/-- Settles O10: the flags and the sum do not look at D. -/
theorem addWithCarry : Obligations.AddWithCarry := by
  intro i s m hm
  exact ⟨_, adcFlags_flagsAre s.a m.value s.p, exec_adds (addend := id) (by rw [hm]; rfl) s⟩

/-- Settles O11: an addition of the complement. -/
theorem subtractWithBorrow : Obligations.SubtractWithBorrow := by
  intro i s m hm
  have template : templateOf i.mnemonic = .reads fun m s => s.adc (m ^^^ 0xFF) := by
    obtain hm | hm := hm <;> rw [hm] <;> rfl
  refine ⟨_, sbcFlags_flagsAre s.a m.value s.p, ?_⟩
  rw [← addResult_xor_ff]
  exact exec_adds template s

/-- A compare of a register with the operand byte. -/
theorem exec_compares {i : Instr} {r : Reg}
    (h : templateOf i.mnemonic = .reads fun m s => s.compare r m) (s : State) :
    let m := fetchOperand i.operand s
    exec i s = .next (finish i m.crossed { m.st with p := cmpFlags (s.reg r) m.value s.p }) := by
  intro m
  have hreg : m.st.reg r = s.reg r := by cases r <;> simp [m]
  rw [exec_reads h, ← hreg, ← fetchOperand_p i.operand s]
  rfl

theorem getFlag_Z_cmpFlags (r m p : Byte) : getFlag .Z (cmpFlags r m p) = true ↔ r = m := by
  have zero : getFlag .Z (cmpFlags r m p) = (r - m == 0) := by simp [cmpFlags]
  rw [zero, beq_iff_eq]
  exact sub_eq_zero

/-- Settles O12: a compare sets the flags of a difference, BIT those of an and. -/
theorem compareInstructions : Obligations.CompareInstructions := by
  intro i s m
  refine ⟨fun r h => ⟨cmpFlags r m.value s.p, cmpFlags_flagsAre r m.value s.p,
    getFlag_Z_cmpFlags r m.value s.p, ?_⟩, fun hm => ⟨bitFlags s.a m.value s.p, fun f => ?_, ?_⟩⟩
  · obtain ⟨hm, rfl⟩ | ⟨hm, rfl⟩ | ⟨hm, rfl⟩ := h
    · exact exec_compares (r := .A) (by rw [hm]; rfl) s
    · exact exec_compares (r := .X) (by rw [hm]; rfl) s
    · exact exec_compares (r := .Y) (by rw [hm]; rfl) s
  · cases f <;> simp [bitFlags]
  · rw [exec_reads (by rw [hm]; rfl), ← fetchOperand_a i.operand s, ← fetchOperand_p i.operand s]
    rfl

/-! ### No-operations (R297, R315, R316) -/

theorem exec_nops {i : Instr} (h : templateOf i.mnemonic = .nops) (s : State) :
    let r := resolve i.operand s
    exec i s = .next (finish i r.crossed (nopRead i.operand r)) := by
  intro r
  rw [exec_eq_run, h, ← endInstr_eq_finish]
  rfl

/-- The formats of the no-operations: no operand, an immediate byte, or one that is read. -/
def nopFormat : Operand → Bool
  | .imp | .imm _ => true
  | o => readsMemory o

theorem nopFormat_of_nop {i : Instr} (h : i.mnemonic ∈ [.NOP, .UNOP, .UNA]) :
    nopFormat i.operand = true := by
  have table : (i.mnemonic ∉ [.NOP, .UNOP, .UNA] || nopFormat i.operand) = true := by
    cases i <;> rfl
  simpa [h] using table

theorem readsMemory_of_nopFormat {o : Operand} (h : nopFormat o = true) (himp : o ≠ .imp)
    (himm : ∀ b, o ≠ .imm b) : readsMemory o = true := by
  cases o
  case imp => exact absurd rfl himp
  case imm b => exact absurd rfl (himm b)
  all_goals exact h

/-- Settles O18: the read of the operand, discarded. -/
theorem noOperations : Obligations.NoOperations := by
  intro i s hm
  have run : exec i s = _ := exec_nops (by obtain hm | hm | hm := hm <;> rw [hm] <;> rfl) s
  rw [run]
  refine ⟨fun h => ?_, fun himp himm => ?_⟩
  · obtain h | ⟨b, h⟩ := h <;> rw [h] <;> rfl
  · have hread := readsMemory_of_nopFormat (nopFormat_of_nop (by simpa using hm)) himp himm
    simp only [nopRead, hread, config_nopOperandRead, Bool.and_self, if_true]

/-! ### Instructions that modify an operand (R250, R305) -/

theorem exec_modifies {i : Instr} {result : Byte → State → Byte} {use : Byte → Byte → State → State}
    (h : templateOf i.mnemonic = .modifies result use) (hs : i.mnemonic ∈ storers)
    (ho : i.operand ≠ .acc) (s : State) :
    let m := fetchOperand i.operand s
    let r := result m.value m.st
    exec i s = .next (finish i m.crossed (use m.value r (wr m.ea r m.st))) := by
  intro m r
  rw [exec_eq_run, h, finish_of_no_penalty (pagePenalty_of_storer hs), ← endInstr_eq_finish,
    ← storeOperand_memory ho]
  rfl

theorem exec_modifies_acc {i : Instr} {result : Byte → State → Byte}
    {use : Byte → Byte → State → State} (h : templateOf i.mnemonic = .modifies result use)
    (ho : i.operand = .acc) (s : State) :
    let r := result s.a s
    exec i s = .next (finish i false (use s.a r { s with a := r })) := by
  intro r
  rw [exec_eq_run, h, ← endInstr_eq_finish, ho]
  rfl

/-- A shift or rotate, on the accumulator and on memory: a result byte and a carry that are those of
`shift`, bit by bit. -/
theorem exec_shifts {i : Instr} {shift : Byte → Bool → Shifted}
    (h : templateOf i.mnemonic = .modifies (fun v s => (shift v (getFlag .C s.p)).r)
      fun v r s => shiftFlags (shift v (getFlag .C s.p)).c r s)
    (hs : i.mnemonic ∈ storers) {s : State} {r : Byte} {cout : Bool} :
    let m := fetchOperand i.operand s
    let b := shift m.value (getFlag .C s.p)
    cout = b.c → (∀ k < 8, b.r.getLsbD k = r.getLsbD k) →
    ∃ q, flagsAre (cznOf cout r) s.p q ∧
      (i.operand = .acc → m.value = s.a ∧
        exec i s = .next (finish i false { s with a := r, p := q })) ∧
      (i.operand ≠ .acc → exec i s = .next (finish i m.crossed { wr m.ea r m.st with p := q })) := by
  intro m b hc hr
  obtain rfl : b.r = r := BitVec.eq_of_getLsbD_eq hr
  refine ⟨setZN b.r (putFlag .C cout s.p), shiftFlags_flagsAre _ _ _, fun ho => ?_, fun ho => ?_⟩
  · have value : m.value = s.a := by simp only [m, ho]; rfl
    refine ⟨value, ?_⟩
    rw [exec_modifies_acc h ho, hc]
    simp only [b, value]
    rfl
  · rw [exec_modifies h hs ho, hc]
    simp only [shiftFlags, wr_p, fetchOperand_p]
    rfl

/-- Settles O14: the four shifts, whose bits are those of the model's result bytes. -/
theorem shiftsAndRotates : Obligations.ShiftsAndRotates := by
  intro i s m cin r cout h
  obtain ⟨hm, hc, hr⟩ | ⟨hm, hc, hr⟩ | ⟨hm, hc, hr⟩ | ⟨hm, hc, hr⟩ := h
  · exact exec_shifts (shift := fun v _ => aslByte v) (by rw [hm]; rfl) (by rw [hm]; decide) hc
      fun k hk => (getLsbD_aslByte m.value hk).trans (hr k hk).symm
  · exact exec_shifts (shift := rolByte) (by rw [hm]; rfl) (by rw [hm]; decide) hc
      fun k hk => (getLsbD_rolByte m.value cin hk).trans (hr k hk).symm
  · exact exec_shifts (shift := fun v _ => lsrByte v) (by rw [hm]; rfl) (by rw [hm]; decide) hc
      fun k hk => (getLsbD_lsrByte m.value k).trans (hr k hk).symm
  · exact exec_shifts (shift := rorByte) (by rw [hm]; rfl) (by rw [hm]; decide) hc
      fun k hk => (getLsbD_rorByte m.value cin hk).trans (hr k hk).symm

/-! ### Combined read-modify-writes (R308 to R313) -/

/-- The carry that the rotate of `RRA` leaves is the one its addition takes (R313). -/
theorem adcFlags_putFlag_C (a m : Byte) (c : Bool) (p : Byte) :
    flagsAre (addFlags a m c) p (adcFlags a m (putFlag .C c p)) := by
  intro f
  have h := adcFlags_flagsAre a m (putFlag .C c p) f
  rw [getFlag_putFlag, if_pos rfl] at h
  rw [h]
  cases f <;> simp [addFlags, cvznOf, znOf]

theorem toNat_incResult (v : Byte) (s : State) : (incResult v s).toNat = (v.toNat + 1) % 256 := by
  rw [incResult, BitVec.toNat_add]
  rfl

theorem toNat_decResult (v : Byte) (s : State) : (decResult v s).toNat = (v.toNat + 255) % 256 := by
  rw [decResult, BitVec.toNat_sub, Nat.add_comm]
  rfl

/-- The combined read-modify-writes (R305). -/
def combined : List Mnemonic := [.SLO, .RLA, .SRE, .RRA, .DCP, .ISC]

/-- A combined read-modify-write that writes `r` to memory, `a` to A and `q` to P, whatever the write
makes of the rest of the machine. -/
theorem exec_combines {i : Instr} {result : Byte → State → Byte} {use : Byte → Byte → State → State}
    (hm : i.mnemonic ∈ combined) (h : templateOf i.mnemonic = .modifies result use) (s : State)
    {r a q : Byte} :
    let m := fetchOperand i.operand s
    (∀ t : State, t.p = s.p → result m.value t = r) →
    (∀ t : State, t.a = s.a → t.p = s.p → use m.value r t = { t with a := a, p := q }) →
    exec i s = .next (finish i m.crossed { wr m.ea r m.st with a := a, p := q }) := by
  intro m hr huse
  have table : ∀ n ∈ combined, n ∈ storers ∧ n ∉ [.ASL, .LSR, .ROL, .ROR] := by decide
  obtain ⟨hs, ho⟩ := table _ hm
  rw [exec_modifies h hs (operand_ne_acc ho), hr _ (fetchOperand_p i.operand s), huse]
  · rw [wr_a, fetchOperand_a]
  · rw [wr_p, fetchOperand_p]

/-- Settles O19: the six accumulator operations. -/
theorem combinedReadModifyWrite : Obligations.CombinedReadModifyWrite := by
  intro i s m cin finished
  refine ⟨fun hm => ⟨_, _, toNat_aslByte m.value, shiftFlags_flagsAre _ _ s.p, ?_⟩,
    fun hm => ⟨_, _, toNat_rolByte m.value cin, shiftFlags_flagsAre _ _ s.p, ?_⟩,
    fun hm => ⟨_, _, toNat_lsrByte m.value, shiftFlags_flagsAre _ _ s.p, ?_⟩,
    fun hm => ⟨_, _, toNat_rorByte m.value cin, adcFlags_putFlag_C _ _ _ s.p, ?_⟩,
    fun hm => ⟨decResult m.value s, _, ?_, cmpFlags_flagsAre _ _ s.p, ?_⟩,
    fun hm => ⟨incResult m.value s, _, ?_, sbcFlags_flagsAre _ _ s.p, ?_⟩⟩
  · refine exec_combines (by rw [hm]; decide) (by rw [hm]; rfl) s (fun t _ => rfl) fun t ha hp => ?_
    rw [sloAcc, ha, hp]
    rfl
  · refine exec_combines (by rw [hm]; decide) (by rw [hm]; rfl) s
      (fun t hp => by rw [rolResult, hp]) fun t ha hp => ?_
    rw [rlaAcc, ha, hp]
    rfl
  · refine exec_combines (by rw [hm]; decide) (by rw [hm]; rfl) s (fun t _ => rfl) fun t ha hp => ?_
    rw [sreAcc, ha, hp]
    rfl
  · refine exec_combines (by rw [hm]; decide) (by rw [hm]; rfl) s
      (fun t hp => by rw [rorResult, hp]) fun t ha hp => ?_
    rw [rraAcc, ha, hp, State.adc, getFlag_putFlag, if_pos rfl, adcByte_eq_addResult]
    rfl
  · exact toNat_decResult m.value s
  · refine exec_combines (by rw [hm]; decide) (by rw [hm]; rfl) s (fun t _ => rfl) fun t ha hp => ?_
    rw [dcpFlags, State.compare, State.reg_A, ha, hp]
  · exact toNat_incResult m.value s
  · rw [← addResult_xor_ff]
    refine exec_combines (by rw [hm]; decide) (by rw [hm]; rfl) s (fun t _ => rfl) fun t ha hp => ?_
    rw [iscAcc, State.sbc, State.adc, ha, hp, adcByte_eq_addResult]

end Sys2Proof.Machine
end

section
/-! PROOFS. The instructions without an operand: `exec_implied` is their template in the words of the
statements, and the transfers and counts are the ones that load a register. -/

namespace Sys2Proof.Machine

/-! ### Transfers and counts of registers (R207 to R212, R234 to R237) -/

theorem exec_implied {i : Instr} {act : State → State} (h : templateOf i.mnemonic = .implied act)
    (s : State) : exec i s = .next (finish i false (act s)) := by
  rw [exec_eq_run, h, ← endInstr_eq_finish]
  rfl

/-- An instruction without an operand that puts `value` in a register: Z and N follow it. -/
theorem exec_implied_loads {i : Instr} {r : Reg} {value : State → Byte}
    (h : templateOf i.mnemonic = .implied fun s => s.loadReg r (value s)) (s : State) :
    ∃ q, flagsAre (znOf (value s)) s.p q ∧
      exec i s = .next (finish i false { s.setReg r (value s) with p := q }) :=
  ⟨_, setZN_flagsAre (value s) s.p, exec_implied h s⟩

/-- The same where the loaded byte is known by its number `n`, as a count modulo 256 is. -/
theorem exec_implied_counts {i : Instr} {r : Reg} {value : State → Byte} {n : Nat}
    (h : templateOf i.mnemonic = .implied fun s => s.loadReg r (value s)) (s : State)
    (hv : (value s).toNat = n) :
    ∃ q v : Byte, v.toNat = n ∧ flagsAre (znOf v) s.p q ∧
      exec i s = .next (finish i false { s.setReg r v with p := q }) := by
  obtain ⟨q, hq, he⟩ := exec_implied_loads h s
  exact ⟨q, value s, hv, hq, he⟩

/-- Settles O15: nine loads of a register, and `TXS`, which sets no flag. -/
theorem transfersAndCounts : Obligations.TransfersAndCounts := fun s =>
  ⟨⟨rfl, exec_implied_loads (i := .tax) (r := .X) (value := State.a) rfl s⟩,
    ⟨rfl, exec_implied_loads (i := .tay) (r := .Y) (value := State.a) rfl s⟩,
    ⟨rfl, exec_implied_loads (i := .txa) (r := .A) (value := State.x) rfl s⟩,
    ⟨rfl, exec_implied_loads (i := .tya) (r := .A) (value := State.y) rfl s⟩,
    ⟨rfl, exec_implied_loads (i := .tsx) (r := .X) (value := State.sp) rfl s⟩,
    ⟨rfl, exec_implied (i := .txs) (act := fun s => { s with sp := s.x }) rfl s⟩,
    ⟨rfl, exec_implied_counts (i := .inx) (r := .X) (value := (·.x + 1)) rfl s
      (toNat_incResult s.x s)⟩,
    ⟨rfl, exec_implied_counts (i := .iny) (r := .Y) (value := (·.y + 1)) rfl s
      (toNat_incResult s.y s)⟩,
    ⟨rfl, exec_implied_counts (i := .dex) (r := .X) (value := (·.x - 1)) rfl s
      (toNat_decResult s.x s)⟩,
    ⟨rfl, exec_implied_counts (i := .dey) (r := .Y) (value := (·.y - 1)) rfl s
      (toNat_decResult s.y s)⟩⟩

end Sys2Proof.Machine
end

section
/-! PROOFS. Control flow: a return right after a call, and the eight branches. -/

namespace Sys2Proof.Machine

/-! ### A return right after a call (R263, R264, R276) -/

/-- The two bytes a call pushes. -/
def callFrame (sp : Byte) (ret : Word) (ram : Memory) : Memory :=
  (ram.set (stackOffset sp) (hi ret)).set (stackOffset (sp - 1)) (lo ret)

/-- The return address of a call is that of its own last byte (R263). -/
theorem exec_jsrAbs (w : Word) (s : State) : exec (.jsrAbs w) s = .next { s with
    ram := callFrame s.sp (s.pc + 2) s.ram, sp := s.sp - 2, pc := w, cyc := s.cyc + 6 } := by
  rw [(callAndReturn s w).1, callFrame, hi_eq_ofNat, lo_eq_ofNat]

theorem exec_rts (s : State) : exec .rts s = .next { s with
    sp := s.sp + 2, busLatch := s.ram.get (stackOffset (s.sp + 2))
    pc := word (s.ram.get (stackOffset (s.sp + 2))) (s.ram.get (stackOffset (s.sp + 1))) + 1
    cyc := s.cyc + 6 } := by
  rw [word_add_one]
  exact (callAndReturn s 0).2

/-- The bytes of the frame, read where RTS reads them. -/
theorem get_callFrame {ram : Memory} (hwf : ram.wf = true) (sp : Byte) (ret : Word) :
    (callFrame sp ret ram).get (stackOffset (sp - 1)) = lo ret ∧
    (callFrame sp ret ram).get (stackOffset sp) = hi ret := by
  unfold callFrame
  constructor
  · exact Memory.get_set_same (Memory.wf_set hwf _ _) _ _
  · rw [Memory.get_set_other (stackOffset_ne (by bv_omega)), Memory.get_set_same hwf]

/-- Settles O24: RTS pulls the address that JSR pushed and adds one. -/
theorem returnAfterCall : Obligations.ReturnAfterCall := by
  intro s t u w hwf ht hu
  obtain ⟨hlo, hhi⟩ := get_callFrame hwf s.sp (s.pc + 2)
  have low : s.sp - 2 + 1 = s.sp - 1 := by bv_omega
  have behind : s.pc + 2 + 1 = s.pc + 3 := by bv_omega
  rw [exec_jsrAbs] at ht
  cases ht
  rw [exec_rts] at hu
  cases hu
  simp only [low, BitVec.sub_add_cancel, hlo, hhi, word_hi_lo, behind, and_self]

/-! ### Branches (R267 to R275) -/

/-- The target of a branch, modulo 2^16 (R152). -/
theorem resolve_rel_ea_eq_ofInt (r : Byte) (s : State) :
    (resolve (.rel r) s).ea = BitVec.ofInt 16 (s.pc.toNat + 2 + r.toInt) := by
  refine BitVec.eq_of_toNat_eq ?_
  have target := resolve_rel_ea r s
  rw [BitVec.toNat_ofInt]
  omega

theorem branchExtra_true (target next : Word) :
    branchExtra true target next =
      1 + if target.toNat / 256 = next.toNat / 256 then 0 else 1 := by
  have page : hi target = hi next ↔ target.toNat / 256 = next.toNat / 256 := by
    rw [BitVec.toNat_eq, toNat_hi, toNat_hi]
  rw [branchExtra, if_pos rfl]
  by_cases same : hi target = hi next
  · rw [if_pos (page.1 same), same, bne_self_eq_false, Bool.toNat_false]
  · rw [if_neg (mt page.2 same), bne_iff_ne.2 same, Bool.toNat_true]

theorem branchInstr_taken (r : Byte) (s : State) :
    let target : Word := BitVec.ofInt 16 (s.pc.toNat + 2 + r.toInt)
    branchInstr r true s = .next { s with
      pc := target
      cyc := s.cyc + 3 + if target.toNat / 256 = (s.pc + 2).toNat / 256 then 0 else 1 } := by
  simp only [branchInstr, retireTo, branchExtra_true, resolve_rel_ea_eq_ofInt, if_true]
  congr 2
  omega

theorem branchInstr_not_taken (r : Byte) (s : State) :
    branchInstr r false s = .next { s with pc := s.pc + 2, cyc := s.cyc + 2 } := rfl

/-- Settles O29: each of the eight is `branchInstr` on its own condition. -/
theorem conditionalBranches : Obligations.ConditionalBranches := by
  intro s r next target branch
  have branches {i : Instr} {op : Byte} {c : Bool} (bytes : encode i = [op, r])
      (meaning : exec i s = branchInstr r c s) : branch i op c := by
    refine ⟨bytes, fun taken => ?_, fun not_taken => ?_⟩
    · rw [meaning, taken]
      exact branchInstr_taken r s
    · rw [meaning, not_taken]
      exact branchInstr_not_taken r s
  exact ⟨branches rfl rfl, branches rfl rfl, branches rfl rfl, branches rfl rfl,
    branches rfl rfl, branches rfl rfl, branches rfl rfl, branches rfl rfl⟩

end Sys2Proof.Machine
end

section
/-! PROOFS. The flag instructions: each puts its one flag and retires as an instruction without an
operand does. -/

namespace Sys2Proof.Machine

/-! ### Instructions that put one flag (R290 to R296) -/

/-- An instruction without an operand that puts a flag: every other flag is the one before. -/
theorem exec_implied_puts {i : Instr} {f : Flag} {b : Bool}
    (h : templateOf i.mnemonic = .implied fun s => { s with p := putFlag f b s.p }) (s : State) :
    ∃ q, flagsAre (oneFlag f b) s.p q ∧ exec i s = .next (finish i false { s with p := q }) :=
  ⟨_, putFlag_flagsAre f b s.p, exec_implied h s⟩

/-- Settles O17: the seven templates differ in the flag and the bit they put. -/
theorem flagInstructions : Obligations.FlagInstructions := fun s =>
  ⟨⟨rfl, exec_implied_puts (i := .clc) rfl s⟩, ⟨rfl, exec_implied_puts (i := .sec) rfl s⟩,
    ⟨rfl, exec_implied_puts (i := .cli) rfl s⟩, ⟨rfl, exec_implied_puts (i := .sei) rfl s⟩,
    ⟨rfl, exec_implied_puts (i := .cld) rfl s⟩, ⟨rfl, exec_implied_puts (i := .sed) rfl s⟩,
    ⟨rfl, exec_implied_puts (i := .clv) rfl s⟩⟩

end Sys2Proof.Machine
end

section
/-! PROOFS. The classes of the opcode table: an opcode byte has the class of its entry, whatever operand
bytes follow, so the members of a class are counted over the entries. -/

namespace Sys2Proof.Machine

/-! ### The class of an opcode byte (R317) -/

/-- The class follows the mnemonic (R155, R160, R162). -/
theorem opcodeClass_congr {i j : Instr} (h : i.mnemonic = j.mnemonic) :
    i.opcodeClass = j.opcodeClass := by
  rw [Instr.opcodeClass, Instr.opcodeClass, h]

theorem formInstr_zero (op : Byte) : formInstr (opcodeForm op) 0 0 = instrOf op := by
  unfold instrOf
  cases opcodeForm op <;> rfl

/-- Three bytes decode to an instruction of the class of the first byte's entry. -/
theorem decode_three_opcodeClass (op b1 b2 : Byte) : ∃ i rest,
    decode [op, b1, b2] = .ok (i, rest) ∧ i.opcodeClass = (instrOf op).opcodeClass := by
  obtain ⟨i, b, w, hi, hdecode⟩ := decode_three op b1 b2
  refine ⟨i, _, hdecode, opcodeClass_congr ?_⟩
  rw [hi, ← formInstr_zero, mnemonic_formInstr]

/-- The number of opcode bytes whose entry is of class `c`. -/
def opcodeCount (c : OpcodeClass) : Nat :=
  ((List.range 256).filter fun n => (instrOf (BitVec.ofNat 8 n)).opcodeClass == c).length

theorem opcodeCount_documented : opcodeCount .documented = 151 := by decide +kernel

theorem opcodeCount_undocumented : opcodeCount .undocumented = 80 := by decide +kernel

theorem opcodeCount_unassigned : opcodeCount .unassigned = 25 := by decide +kernel

/-- Settles O4: every byte decodes, to the class of its entry. -/
theorem opcodeClassCounts : Obligations.OpcodeClassCounts := by
  unfold Obligations.OpcodeClassCounts
  intro classOf count
  have classOf_eq (n : Nat) : classOf n = some (instrOf (BitVec.ofNat 8 n)).opcodeClass := by
    obtain ⟨i, rest, hdecode, hclass⟩ := decode_three_opcodeClass (BitVec.ofNat 8 n) 0 0
    simp only [classOf, hdecode, hclass]
  have count_eq (c : OpcodeClass) : count c = opcodeCount c := by
    simp only [count, classOf_eq, opcodeCount, Option.some_beq_some]
  rw [count_eq, count_eq, count_eq]
  exact ⟨opcodeCount_documented, opcodeCount_undocumented, opcodeCount_unassigned⟩

end Sys2Proof.Machine
end

section
/-! PROOFS. The poll for interrupts: the event it takes, and the step that follows. -/

namespace Sys2Proof.Machine

/-! ### The event a poll takes (R404, R409) -/

/-- A pending NMI wins over the IRQ line. -/
theorem poll_of_nmiPending {s : State} (hnmi : s.nmiPending = true) : poll s = some .nmi :=
  if_pos hnmi

/-- Without an NMI, the poll looks at the IRQ line and I. -/
theorem poll_of_not_nmiPending {s : State} (hnmi : s.nmiPending = false) :
    poll s = if s.irqLine && !getFlag .I s.p then some .irq else none :=
  if_neg (Bool.eq_false_iff.mp hnmi)

theorem poll_of_irq {s : State} (hnmi : s.nmiPending = false) (hline : s.irqLine = true)
    (hI : getFlag .I s.p = false) : poll s = some .irq := by
  rw [poll_of_not_nmiPending hnmi, hline, hI]
  rfl

theorem poll_eq_none {s : State} (hnmi : s.nmiPending = false)
    (hirq : s.irqLine = false ∨ getFlag .I s.p = true) : poll s = none := by
  rw [poll_of_not_nmiPending hnmi]
  obtain hline | hI := hirq
  · rw [hline, Bool.false_and]
    rfl
  · rw [hI, Bool.not_true, Bool.and_false]
    rfl

/-! ### The step after a poll (R404, R700) -/

/-- The entry of a polled event is a step of its own. -/
theorem step_of_poll_some {s : State} {k : TrapKind} (h : poll s = some k) :
    step s = .next (catchUp s.cyc (interrupt k s)) := by
  unfold step iterate cpuAdvance
  rw [h]

/-- With nothing polled, the step is the fetched instruction and the catch-up. -/
theorem step_of_poll_none {s t : State} (h : poll s = none)
    (ht : exec (fetchInstr s).instr (fetchInstr s).st = .next t) :
    step s = .next (catchUp s.cyc t) := by
  unfold step iterate cpuAdvance cpuStep
  rw [h]
  dsimp only
  rw [ht]

/-- Settles O27: the three answers of `poll`, each with its step. -/
theorem interruptPoll : Obligations.InterruptPoll := fun _ =>
  ⟨rfl,
    fun hnmi => step_of_poll_some (poll_of_nmiPending hnmi),
    fun hnmi hline hI => step_of_poll_some (poll_of_irq hnmi hline hI),
    fun hnmi hirq => ⟨_, exec_eq_run _ _, step_of_poll_none (poll_eq_none hnmi hirq) (exec_eq_run _ _)⟩⟩

end Sys2Proof.Machine
end

section
/-! PROOFS. Fields of a word after a field was replaced, and the eight registers of the video unit: what
a read returns and changes, and what a write changes. -/

namespace Sys2Proof.Machine

/-! ### Fields of a word (R10) -/

theorem getLsbD_putBits {n k : Nat} (v : BitVec n) (lo : Nat) (x : BitVec k) (i : Nat) :
    (putBits v lo x).getLsbD i =
      if lo ≤ i ∧ i < lo + k ∧ i < n then x.getLsbD (i - lo) else v.getLsbD i := by
  by_cases hn : i < n
  · by_cases hlo : i < lo
    · simp [putBits, hn, hlo, Nat.not_le_of_lt hlo]
    · have hle : lo ≤ i := Nat.le_of_not_lt hlo
      by_cases hk : i < lo + k
      · have field : i - lo < k := by omega
        simp [putBits, hn, hlo, hle, hk, field]
      · have field : k ≤ i - lo := by omega
        simp [putBits, hn, hlo, hle, hk, Nat.not_lt_of_le field, BitVec.getLsbD_of_ge x _ field]
  · rw [BitVec.getLsbD_of_ge _ _ (Nat.le_of_not_lt hn), if_neg (by omega),
      BitVec.getLsbD_of_ge _ _ (Nat.le_of_not_lt hn)]

/-- The field just replaced. -/
@[simp] theorem bits_putBits_same {n k lo : Nat} (h : lo + k ≤ n) (v : BitVec n) (x : BitVec k) :
    bits (putBits v lo x) lo k = x := by
  refine BitVec.eq_of_getLsbD_eq fun i hi => ?_
  rw [bits, BitVec.getLsbD_extractLsb', getLsbD_putBits, if_pos (by omega), Nat.add_sub_cancel_left]
  simp [hi]

/-- A field beside the one just replaced. -/
@[simp] theorem bits_putBits_beside {n k l lo lo' : Nat} (h : lo' + l ≤ lo ∨ lo + k ≤ lo')
    (v : BitVec n) (x : BitVec k) : bits (putBits v lo x) lo' l = bits v lo' l := by
  refine BitVec.eq_of_getLsbD_eq fun i hi => ?_
  simp only [bits, BitVec.getLsbD_extractLsb', getLsbD_putBits]
  rw [if_neg (by omega)]

/-- A field over the integers. -/
theorem toNat_bits {n : Nat} (v : BitVec n) (lo k : Nat) :
    (bits v lo k).toNat = v.toNat / 2 ^ lo % 2 ^ k := by
  rw [bits, BitVec.extractLsb'_toNat, Nat.shiftRight_eq_div_pow]

/-! ### Reads (R455, R460, R463, R468) -/

theorem readDest_ppuReg {a : Word} (h : 0x2000 ≤ a.toNat) (h' : a.toNat ≤ 0x3FFF) :
    readDest a = .ppuReg (bits a 0 3) := by
  rw [readDest, if_neg (by omega), if_pos h']

theorem writeDest_ppuReg {a : Word} (h : 0x2000 ≤ a.toNat) (h' : a.toNat ≤ 0x3FFF) :
    writeDest a = .ppuReg (bits a 0 3) := by
  rw [writeDest, if_neg (by omega), if_pos h']

/-- The register that a bus address selects (R83). -/
theorem toNat_register (a : Word) : (bits a 0 3).toNat = a.toNat % 8 := by
  rw [toNat_bits]
  omega

theorem register_eq {a : Word} {n : BitVec 3} (hn : a.toNat % 8 = n.toNat) : bits a 0 3 = n :=
  BitVec.eq_of_toNat_eq ((toNat_register a).trans hn)

/-- A bus read of register `n`. -/
theorem read_ppuReg {a : Word} {n : BitVec 3} (h : 0x2000 ≤ a.toNat) (h' : a.toNat ≤ 0x3FFF)
    (hn : a.toNat % 8 = n.toNat) (s : State) :
    peek a s = ppuRegValue n s ∧
    afterRd a s = { ppuRegReadEffect n s with busLatch := ppuRegValue n s } := by
  simp only [afterRd, peek, readEffect, readDest_ppuReg h h', register_eq hn, and_self]

/-- A read of a write-only register returns the latch and has no effect (R455). -/
theorem read_writeOnly {n : BitVec 3} (h2 : n.toNat ≠ 2) (h4 : n.toNat ≠ 4) (h7 : n.toNat ≠ 7)
    (s : State) : ppuRegValue n s = s.ppu.ioLatch ∧ ppuRegReadEffect n s = s := by
  unfold ppuRegValue ppuRegReadEffect
  split
  case h_4 => exact ⟨rfl, rfl⟩
  all_goals contradiction

/-- The status byte (R460). -/
theorem getLsbD_status (p : Ppu) :
    p.status.getLsbD 7 = p.vblank ∧ p.status.getLsbD 6 = p.spr0Hit ∧
    p.status.getLsbD 5 = p.sprOverflow ∧ p.status.toNat % 32 = p.ioLatch.toNat % 32 := by
  have low : bits p.status 0 5 = bits p.ioLatch 0 5 := by
    refine BitVec.eq_of_getLsbD_eq fun i hi => ?_
    interval_cases i <;> simp [bits, Ppu.status, bitAt]
  rw [BitVec.toNat_eq, toNat_bits, toNat_bits, Nat.pow_zero, Nat.div_one, Nat.div_one] at low
  exact ⟨by simp [Ppu.status, bitAt], by simp [Ppu.status, bitAt], by simp [Ppu.status, bitAt], low⟩

/-- The byte of object memory, without bits 4:2 where it is the third of a sprite (R463). -/
theorem getLsbD_oamData (p : Ppu) {k : Nat} (hk : k < 8) : p.oamData.getLsbD k =
    ((p.oam.get p.oamAddr.toNat).getLsbD k &&
      !(p.oamAddr.toNat % 4 = 2 ∧ 2 ≤ k ∧ k ≤ 4 : Bool)) := by
  have third : bits p.oamAddr 0 2 = 2 ↔ p.oamAddr.toNat % 4 = 2 := by
    rw [BitVec.toNat_eq, toNat_bits, Nat.pow_zero, Nat.div_one]
    rfl
  have kept : ∀ k < 8, (0xE3#8).getLsbD k = !decide (2 ≤ k ∧ k ≤ 4) := by decide
  unfold Ppu.oamData
  simp only [third]
  split
  · next h => simp [h, kept k hk]
  · next h => simp [h]

/-- `v` after an access of the data register (R469). -/
theorem toNat_add_increment (p : Ppu) : (p.v + p.increment).toNat =
    (p.v.toNat + if p.ctrl.getLsbD 2 then 32 else 1) % 32768 := by
  rw [BitVec.toNat_add, Ppu.increment, apply_ite BitVec.toNat]
  rfl

theorem vaddr_eq_ofNat (p : Ppu) : p.vaddr = BitVec.ofNat 14 p.v.toNat :=
  BitVec.eq_of_toNat_eq (by rw [Ppu.vaddr, toNat_bits, BitVec.toNat_ofNat, Nat.pow_zero, Nat.div_one])

/-- Settles O38: the registers by their number, which is the address modulo 8. -/
theorem videoRegisterReads : Obligations.VideoRegisterReads := by
  intro a s h h' v
  refine ⟨fun hn => ?_, fun hn => ?_, fun hn => ?_, fun h2 h4 h7 => ?_⟩
  · obtain ⟨value, effect⟩ := read_ppuReg (n := 2) h h' hn s
    obtain ⟨vblank, hit, overflow, latch⟩ := getLsbD_status s.ppu
    rw [show v = s.ppu.status from value]
    exact ⟨vblank, hit, overflow, latch, effect⟩
  · obtain ⟨value, effect⟩ := read_ppuReg (n := 4) h h' hn s
    rw [show v = s.ppu.oamData from value]
    exact ⟨fun k hk => getLsbD_oamData s.ppu hk, effect⟩
  · obtain ⟨value, effect⟩ := read_ppuReg (n := 7) h h' hn s
    intro va
    rw [show va = s.ppu.vaddr from (vaddr_eq_ofNat _).symm, show v = dataReadValue s from value]
    exact ⟨rfl, _, toNat_add_increment s.ppu, effect⟩
  · obtain ⟨value, effect⟩ := read_ppuReg h h' (toNat_register a).symm s
    rw [← toNat_register] at h2 h4 h7
    obtain ⟨latch, unchanged⟩ := read_writeOnly h2 h4 h7 s
    rw [show v = _ from value, effect, unchanged]
    exact ⟨latch, rfl⟩

/-! ### Writes (R456) -/

/-- A bus write of register `n`. -/
theorem wr_ppuReg {a : Word} {n : BitVec 3} (h : 0x2000 ≤ a.toNat) (h' : a.toNat ≤ 0x3FFF)
    (hn : a.toNat % 8 = n.toNat) (d : Byte) (s : State) : wr a d s = ppuRegWrite n d s := by
  simp only [wr, writeDest_ppuReg h h', register_eq hn]

/-- A write of the control register raises no interrupt (R457, D32). -/
theorem writeCtrl_eq (d : Byte) (s : State) :
    writeCtrl d s =
      { s with ppu := { s.ppu with ctrl := d, t := putBits s.ppu.t 10 (bits d 0 2) } } := by
  simp [writeCtrl]

/-- The video bus does not see the latch, which a write of the data register has filled (R467). -/
theorem writeData_latched (d : Byte) (s : State) :
    writeData d { s with ppu := { s.ppu with ioLatch := d } } =
      { ppuWr s.ppu.vaddr d s with
        ppu := { (ppuWr s.ppu.vaddr d s).ppu with
          ioLatch := d, v := s.ppu.v + s.ppu.increment } } := by
  have sees : ({ s.ppu with ioLatch := d } : Ppu).vaddr = s.ppu.vaddr := rfl
  unfold writeData ppuWr
  simp only [sees]
  (repeat' split) <;> rfl

theorem writeScroll_first {p : Ppu} (h : p.w = false) (d : Byte) :
    p.writeScroll d =
      { p with t := putBits p.t 0 (bits d 3 5), fineX := bits d 0 3, w := true } := by
  simp [Ppu.writeScroll, h]

theorem writeScroll_second {p : Ppu} (h : p.w = true) (d : Byte) :
    p.writeScroll d =
      { p with t := putBits (putBits p.t 12 (bits d 0 3)) 5 (bits d 3 5), w := false } := by
  simp [Ppu.writeScroll, h]

theorem writeAddr_first {p : Ppu} (h : p.w = false) (d : Byte) :
    p.writeAddr d =
      { p with t := putBits (putBits p.t 8 (bits d 0 6)) 14 (0 : BitVec 1), w := true } := by
  simp [Ppu.writeAddr, h]

theorem writeAddr_second {p : Ppu} (h : p.w = true) (d : Byte) :
    p.writeAddr d = { p with t := putBits p.t 0 d, v := putBits p.t 0 d, w := false } := by
  simp [Ppu.writeAddr, h]

/-- Settles O39: the registers by their number, and the toggle for scroll and address. -/
theorem videoRegisterWrites : Obligations.VideoRegisterWrites := by
  intro a d s h h' p t
  let latched : State := { s with ppu := { p with ioLatch := d } }
  have written {n : BitVec 3} (hn : a.toNat % 8 = n.toNat) : wr a d s = ppuRegWrite n d s :=
    wr_ppuReg h h' hn d s
  refine ⟨fun hn => ⟨putBits t 10 (bits d 0 2), ?_⟩, fun hn => written (n := 1) hn,
    fun hn => written (n := 2) hn, fun hn => written (n := 3) hn, fun hn => written (n := 4) hn,
    fun hn => ?_, fun hn => ?_, fun hn => ⟨p.v + p.increment, toNat_add_increment p, ?_⟩⟩
  · exact ⟨by simp, by simp, by simp, (written (n := 0) hn).trans (writeCtrl_eq d latched)⟩
  · have scrolled : wr a d s = { latched with ppu := latched.ppu.writeScroll d } :=
      written (n := 5) hn
    cases hw : p.w
    · rw [writeScroll_first (p := latched.ppu) hw] at scrolled
      exact ⟨_, fun _ => ⟨by simp [latched], by simp [latched, t], scrolled⟩, nofun⟩
    · rw [writeScroll_second (p := latched.ppu) hw] at scrolled
      exact ⟨_, nofun, fun _ => ⟨by simp [latched, t], by simp [latched], by simp [latched, t],
        by simp [latched], scrolled⟩⟩
  · have addressed : wr a d s = { latched with ppu := latched.ppu.writeAddr d } :=
      written (n := 6) hn
    cases hw : p.w
    · rw [writeAddr_first (p := latched.ppu) hw] at addressed
      exact ⟨_, fun _ => ⟨by simp [latched, t], by simp [latched], by simp [latched], addressed⟩,
        nofun⟩
    · rw [writeAddr_second (p := latched.ppu) hw] at addressed
      exact ⟨_, nofun, fun _ => ⟨by simp [latched], by simp [latched, t], addressed⟩⟩
  · rw [← vaddr_eq_ofNat]
    exact (written (n := 7) hn).trans (writeData_latched d s)

end Sys2Proof.Machine
end

section
/-! PROOFS. A tick of the video unit, phase by phase: what each phase changes and leaves; vertical blank,
the length of a frame, and a tick with rendering off. -/

namespace Sys2Proof.Machine

/-! ### The phases (R481) -/

/-- `advance()` moves the raster position only (R482). -/
theorem advance_frame (p : Ppu) : p.advance =
    { p with scanline := p.advance.scanline, dot := p.advance.dot, odd := p.advance.odd } := by
  unfold Ppu.advance
  (repeat' split) <;> rfl

/-- The flags that the dot (261, 1) clears (R493). -/
theorem clearFlags_eq (p : Ppu) : p.clearFlags =
    let kept := !(p.scanline == 261 && p.dot == 1)
    { p with
      vblank := p.vblank && kept, spr0Hit := p.spr0Hit && kept
      sprOverflow := p.sprOverflow && kept } := by
  unfold Ppu.clearFlags
  split
  · next h => simp [h]
  · next h =>
    have kept : (p.scanline == 261 && p.dot == 1) = false := by simpa using h
    simp [kept]

theorem clearFlags_of_not {p : Ppu} (h : ¬ (p.scanline = 261 ∧ p.dot = 1)) : p.clearFlags = p :=
  if_neg h

theorem emitStep_of_visible {p : Ppu} (h : p.scanline ≤ 239 ∧ 1 ≤ p.dot ∧ p.dot ≤ 256) :
    p.emitStep = p.emitPixel (p.dot - 1) p.scanline :=
  if_pos h

theorem emitStep_of_not_visible {p : Ppu} (h : ¬ (p.scanline ≤ 239 ∧ 1 ≤ p.dot ∧ p.dot ≤ 256)) :
    p.emitStep = p :=
  if_neg h

/-- Drawing changes the frame buffer and the sprite-zero flag only (R490, R491). -/
theorem emitStep_frame (p : Ppu) :
    p.emitStep = { p with fb := p.emitStep.fb, spr0Hit := p.emitStep.spr0Hit } := by
  unfold Ppu.emitStep
  split <;> rfl

theorem renderLine_iff (p : Ppu) : p.renderLine = true ↔ p.scanline ≤ 239 ∨ p.scanline = 261 := by
  simp [Ppu.renderLine]

/-- The state whose dot is cleared and drawn. -/
def drawn (s : State) : State := { s with ppu := s.ppu.clearFlags.emitStep }

/-- A tick by its phases (R481). -/
theorem tick_eq (s : State) :
    tick s = let u := vblankPhase (renderPhase (drawn s)); { u with ppu := u.ppu.advance } := rfl

theorem drawn_acted (s : State) : ActedOnDot s.ppu (drawn s).ppu :=
  (clearFlags_acted s.ppu).trans (emitStep_acted _)

theorem evalSprites_frame (s : State) (line fuel n : Nat) (p : Ppu) :
    let q := evalSprites s line fuel n p
    q = { p with
      slots := q.slots, slotCount := q.slotCount, slot0IsSpr0 := q.slot0IsSpr0
      sprOverflow := q.sprOverflow } := by
  induction fuel generalizing n p with
  | zero => rfl
  | succ fuel ih =>
    unfold evalSprites
    split
    · split
      · dsimp only
        rw [ih]
      · rfl
    · exact ih _ _

/-- The video unit `p` with the background pipeline of `b` (R44). -/
def Ppu.withBackground (p b : Ppu) : Ppu :=
  { p with
    ntByte := b.ntByte, atBits := b.atBits, ptLo := b.ptLo, ptHi := b.ptHi
    bgLo := b.bgLo, bgHi := b.bgHi, atLo := b.atLo, atHi := b.atHi }

/-- The video unit `p` with the sprites of `e` (R45) and their overflow flag. -/
def Ppu.withSprites (p e : Ppu) : Ppu :=
  { p with
    slots := e.slots, slotCount := e.slotCount, slot0IsSpr0 := e.slot0IsSpr0
    sprOverflow := e.sprOverflow }

/-- `v` after the background step of a dot (R481, R483). -/
def Ppu.vFetched (p : Ppu) : BitVec 15 := if fetchDot p.dot ∧ p.dot % 8 = 0 then incX p.v else p.v

/-- `v` after the `inc_y` of dot 256 (R481, R484). -/
def Ppu.vDown (p : Ppu) : BitVec 15 := if p.dot = 256 then incY p.vFetched else p.vFetched

/-- `v` after the `copy_x` of dot 257 (R481, R484). -/
def Ppu.vLeft (p : Ppu) : BitVec 15 := if p.dot = 257 then copyX p.vDown p.t else p.vDown

/-- `v` after the dot of a render line, the `copy_y` of line 261 being the last (R481, R484). -/
def Ppu.vScrolled (p : Ppu) : BitVec 15 :=
  if p.scanline = 261 ∧ 280 ≤ p.dot ∧ p.dot ≤ 304 then copyY p.vLeft p.t else p.vLeft

/-- A dot of the background pipeline: the registers shift, and phase `k` fetches a byte or, at 7, loads
the registers and moves right (R483). -/
theorem bgStep_eq (d : Nat) (s : State) : bgStep d s =
    let p := s.ppu
    let k := (d - 1) % 8
    let shift (r : BitVec 16) (load : Byte) := if k = 7 then putBits (r <<< 1) 0 load else r <<< 1
    let spread (i : Nat) : Byte := if p.atBits.getLsbD i then 0xFF else 0x00
    { s with ppu := { p with
      v := if k = 7 then incX p.v else p.v
      ntByte := if k = 0 then ppuRd p.ntAddr s else p.ntByte
      atBits := if k = 2 then bits (ppuRd p.atAddr s >>> p.atShift) 0 2 else p.atBits
      ptLo := if k = 4 then ppuRd p.ptAddr s else p.ptLo
      ptHi := if k = 6 then ppuRd (p.ptAddr ||| 8) s else p.ptHi
      bgLo := shift p.bgLo p.ptLo, bgHi := shift p.bgHi p.ptHi
      atLo := shift p.atLo (spread 0), atHi := shift p.atHi (spread 1) } } := by
  unfold bgStep
  dsimp only
  have phase : (d - 1) % 8 < 8 := Nat.mod_lt _ (by decide)
  generalize (d - 1) % 8 = k at phase
  interval_cases k <;> rfl

theorem bgPhase_eq (s : State) : bgPhase s =
    { s with ppu := { s.ppu.withBackground (bgPhase s).ppu with v := s.ppu.vFetched } } := by
  by_cases h : fetchDot s.ppu.dot
  · have eighth : (s.ppu.dot - 1) % 8 = 7 ↔ fetchDot s.ppu.dot ∧ s.ppu.dot % 8 = 0 := by
      unfold fetchDot at h ⊢
      omega
    have step : bgPhase s = bgStep s.ppu.dot s := if_pos h
    rw [step, bgStep_eq]
    simp only [Ppu.withBackground, Ppu.vFetched, eighth]
  · have still : bgPhase s = s := if_neg h
    have v : s.ppu.vFetched = s.ppu.v := if_neg fun h' => h h'.1
    rw [still, v]
    rfl

theorem spritePhase_eq (s : State) : spritePhase s =
    { s with ppu := { s.ppu.withSprites (spritePhase s).ppu with
      v := if s.ppu.dot = 257 then copyX s.ppu.v s.ppu.t else s.ppu.v } } := by
  unfold spritePhase
  split
  · unfold spriteStep
    dsimp only
    split
    · rfl
    · rw [evalSprites_frame]
      rfl
  · rfl

theorem incYPhase_eq (p : Ppu) :
    p.incYPhase = { p with v := if p.dot = 256 then incY p.v else p.v } := by
  unfold Ppu.incYPhase
  split <;> rfl

theorem copyYPhase_eq (p : Ppu) : p.copyYPhase = { p with
    v := if p.scanline = 261 ∧ 280 ≤ p.dot ∧ p.dot ≤ 304 then copyY p.v p.t else p.v } := by
  unfold Ppu.copyYPhase
  split <;> rfl

/-- The state that the sprite evaluation of a dot sees (R481). -/
def fetched (s : State) : State :=
  { bgPhase s with ppu := (bgPhase s).ppu.incYPhase }

theorem fetched_eq (s : State) : fetched s =
    { s with ppu := { s.ppu.withBackground (bgPhase s).ppu with v := s.ppu.vDown } } := by
  rw [fetched, incYPhase_eq, bgPhase_eq]
  rfl

/-- The three parts of a dot of a render line: background, sprites and `v` (R481). -/
theorem renderPhase_of_rendering {s : State} (hr : s.ppu.rendering = true)
    (hl : s.ppu.scanline ≤ 239 ∨ s.ppu.scanline = 261) : renderPhase s =
    { s with ppu :=
      { (s.ppu.withBackground (bgPhase s).ppu).withSprites (spritePhase (fetched s)).ppu with
        v := s.ppu.vScrolled } } := by
  have phases : renderPhase s =
      { spritePhase (fetched s) with ppu := (spritePhase (fetched s)).ppu.copyYPhase } :=
    if_pos (by rw [hr, (renderLine_iff _).2 hl]; rfl)
  rw [phases, copyYPhase_eq, spritePhase_eq, fetched_eq]
  rfl

theorem renderPhase_of_not {s : State} (h : ¬ (s.ppu.rendering = true ∧
    (s.ppu.scanline ≤ 239 ∨ s.ppu.scanline = 261))) : renderPhase s = s :=
  if_neg (by rwa [Bool.and_eq_true, renderLine_iff])

/-- What the rendering of a dot leaves: all but the pipeline, the sprites and `v`. -/
theorem renderPhase_frame (s : State) :
    let q := (renderPhase s).ppu
    renderPhase s =
      { s with ppu := { (s.ppu.withBackground q).withSprites q with v := q.v } } := by
  by_cases h : s.ppu.rendering = true ∧ (s.ppu.scanline ≤ 239 ∨ s.ppu.scanline = 261)
  · rw [renderPhase_of_rendering h.1 h.2]
    rfl
  · rw [renderPhase_of_not h]
    rfl

theorem spritePhase_of_ne {s : State} (h : s.ppu.dot ≠ 257) : spritePhase s = s := if_neg h

theorem fetched_dot (s : State) : (fetched s).ppu.dot = s.ppu.dot := by rw [fetched_eq]; rfl

/-- Sprites are evaluated at dot 257 only (R487). -/
theorem renderPhase_sprites_of_ne {s : State} (h : s.ppu.dot ≠ 257) :
    (renderPhase s).ppu = (renderPhase s).ppu.withSprites s.ppu := by
  by_cases hr : s.ppu.rendering = true ∧ (s.ppu.scanline ≤ 239 ∨ s.ppu.scanline = 261)
  · rw [renderPhase_of_rendering hr.1 hr.2, spritePhase_of_ne (by rwa [fetched_dot]), fetched_eq]
    rfl
  · rw [renderPhase_of_not hr]
    rfl

/-! ### The tick (R481, R492, R493) -/

theorem drawn_frame (s : State) :
    let q := (drawn s).ppu
    let kept := !(s.ppu.scanline == 261 && s.ppu.dot == 1)
    drawn s = { s with ppu := { s.ppu with
      vblank := s.ppu.vblank && kept, sprOverflow := s.ppu.sprOverflow && kept
      fb := q.fb, spr0Hit := q.spr0Hit } } := by
  unfold drawn
  rw [emitStep_frame, clearFlags_eq]

theorem drawn_of_visible {s : State}
    (h : s.ppu.scanline ≤ 239 ∧ 1 ≤ s.ppu.dot ∧ s.ppu.dot ≤ 256) :
    drawn s = { s with ppu := s.ppu.emitPixel (s.ppu.dot - 1) s.ppu.scanline } := by
  rw [drawn, clearFlags_of_not (by omega), emitStep_of_visible h]

theorem drawn_of_not_visible {s : State}
    (h : ¬ (s.ppu.scanline ≤ 239 ∧ 1 ≤ s.ppu.dot ∧ s.ppu.dot ≤ 256)) :
    drawn s = { s with ppu := s.ppu.clearFlags } := by
  have acted := clearFlags_acted s.ppu
  rw [drawn, emitStep_of_not_visible (by rwa [acted.scanline, acted.dot])]

theorem tick_of_vblank {s : State} (h : s.ppu.scanline = 241 ∧ s.ppu.dot = 1) :
    tick s = { startVblank s with ppu := (startVblank s).ppu.advance } := by
  have still : drawn s = s := by
    rw [drawn_of_not_visible (by omega), clearFlags_of_not (by omega)]
  have starts : vblankPhase s = startVblank s := if_pos h
  rw [tick_eq, still, renderPhase_of_not (by omega), starts]

theorem tick_of_not_vblank {s : State} (h : ¬ (s.ppu.scanline = 241 ∧ s.ppu.dot = 1)) :
    tick s = { renderPhase (drawn s) with ppu := (renderPhase (drawn s)).ppu.advance } := by
  have acted := (drawn_acted s).trans (renderPhase_acted _)
  have passes : vblankPhase (renderPhase (drawn s)) = renderPhase (drawn s) :=
    if_neg (by rwa [acted.scanline, acted.dot])
  rw [tick_eq, passes]

/-- What a tick leaves that does not start vertical blank. -/
theorem tick_frame {s : State} (h : ¬ (s.ppu.scanline = 241 ∧ s.ppu.dot = 1)) :
    let t := (tick s).ppu
    let q := (drawn s).ppu
    tick s = { s with ppu :=
      { (s.ppu.withBackground t).withSprites t with
        v := t.v, scanline := t.scanline, dot := t.dot, odd := t.odd
        vblank := s.ppu.vblank && !(s.ppu.scanline == 261 && s.ppu.dot == 1)
        fb := q.fb, spr0Hit := q.spr0Hit } } := by
  rw [tick_of_not_vblank h, advance_frame, renderPhase_frame, drawn_frame]
  rfl

/-- Settles O44: the ticks at (241, 1), those elsewhere, and the one at (261, 1). -/
theorem verticalBlank : Obligations.VerticalBlank := by
  intro s t
  refine ⟨fun hline hdot => ?_, fun h => ?_, fun hline hdot => ?_⟩
  · rw [show t = _ from tick_of_vblank ⟨hline, hdot⟩, advance_frame]
    exact ⟨rfl, rfl, rfl, rfl, rfl, rfl⟩
  · rw [show t = _ from tick_frame h]
    refine ⟨rfl, rfl, rfl, rfl, fun hend => ?_⟩
    have kept : (s.ppu.scanline == 261 && s.ppu.dot == 1) = false := by simpa using hend
    simp only [kept, Bool.not_false, Bool.and_true]
  · have cleared : s.ppu.clearFlags =
        { s.ppu with vblank := false, spr0Hit := false, sprOverflow := false } :=
      if_pos ⟨hline, hdot⟩
    rw [show t = _ from tick_of_not_vblank (by omega), advance_frame,
      drawn_of_not_visible (by omega), cleared, renderPhase_sprites_of_ne (by simp [hdot]),
      renderPhase_frame]
    exact ⟨rfl, rfl, rfl⟩

/-! ### The length of a frame (R480, R482) -/

theorem ticks_succ (n : Nat) (s : State) : ticks (n + 1) s = tick (ticks n s) := by
  induction n generalizing s with
  | zero => rfl
  | succ n ih => exact ih (tick s)

theorem tick_rendering (s : State) : (tick s).ppu.rendering = s.ppu.rendering := by
  obtain ⟨q, hq, ht⟩ := tick_ppu s
  rw [ht, advance_frame]
  simp only [Ppu.rendering, hq.mask]

/-- `t` is the state `k` ticks into the frame that begins at `s`. -/
structure IntoFrame (s : State) (k : Nat) (t : State) : Prop where
  scanline : t.ppu.scanline = k / 341
  dot : t.ppu.dot = k % 341
  odd : t.ppu.odd = s.ppu.odd
  rendering : t.ppu.rendering = s.ppu.rendering
  frame : t.ppu.frame = s.ppu.frame + if 241 * 341 + 1 < k then 1 else 0
  frames : t.host.frames.length = s.host.frames.length + if 241 * 341 + 1 < k then 1 else 0

/-- Of the frame's ticks the one at (241, 1) counts it and hands its buffer to the sink (R492). -/
theorem tick_counts (s : State) :
    let n := if s.ppu.scanline = 241 ∧ s.ppu.dot = 1 then 1 else 0
    (tick s).ppu.frame = s.ppu.frame + n ∧
    (tick s).host.frames.length = s.host.frames.length + n := by
  obtain ⟨starts, other, -⟩ := verticalBlank s
  dsimp only
  split
  · next h =>
    obtain ⟨-, -, frame, frames, -⟩ := starts h.1 h.2
    exact ⟨frame, by rw [frames, List.length_cons]⟩
  · next h =>
    obtain ⟨-, frame, host, -⟩ := other h
    exact ⟨frame, by rw [host]; rfl⟩

theorem IntoFrame.tick {s t : State} {k : Nat} (h : IntoFrame s k t) (hk : k < 89340) :
    IntoFrame s (k + 1) (tick t) := by
  obtain ⟨scanline, dot, odd, rendering, frame, frames⟩ := h
  obtain ⟨-, nextDot, nextLine, -⟩ := rasterAdvance t
  obtain ⟨counted, handed⟩ := tick_counts t
  have before : (if 241 * 341 + 1 < k + 1 then 1 else 0) = (if 241 * 341 + 1 < k then 1 else 0) +
      if t.ppu.scanline = 241 ∧ t.ppu.dot = 1 then 1 else 0 := by
    have counts : t.ppu.scanline = 241 ∧ t.ppu.dot = 1 ↔ k = 241 * 341 + 1 := by omega
    simp only [counts]
    split_ifs <;> omega
  have moved : (Machine.tick t).ppu.scanline = (k + 1) / 341 ∧
      (Machine.tick t).ppu.dot = (k + 1) % 341 ∧ (Machine.tick t).ppu.odd = t.ppu.odd := by
    by_cases hdot : t.ppu.dot < 340
    · have noSkip : ¬ skipsDot t.ppu := fun ⟨hline, hdot, _⟩ => by omega
      obtain ⟨hline, hdot, hodd⟩ := nextDot noSkip hdot
      exact ⟨by omega, by omega, hodd⟩
    · obtain ⟨hline, hdot, hodd⟩ := nextLine (by omega) (by omega)
      exact ⟨by omega, by omega, hodd⟩
  obtain ⟨hline, hdot, hodd⟩ := moved
  exact ⟨hline, hdot, hodd.trans odd, (tick_rendering t).trans rendering, by omega, by omega⟩

theorem intoFrame_ticks {s : State} (hline : s.ppu.scanline = 0) (hdot : s.ppu.dot = 0) {k : Nat}
    (hk : k ≤ 89340) : IntoFrame s k (ticks k s) := by
  induction k with
  | zero => exact ⟨hline, hdot, rfl, rfl, rfl, rfl⟩
  | succ k ih =>
    rw [ticks_succ]
    exact (ih (by omega)).tick (by omega)

/-- A tick on the last scanline counts no frame. -/
theorem tick_counts_none {s : State} (h : s.ppu.scanline = 261) :
    (tick s).ppu.frame = s.ppu.frame ∧ (tick s).host.frames = s.host.frames := by
  obtain ⟨-, other, -⟩ := verticalBlank s
  obtain ⟨-, frame, host, -⟩ := other (by omega)
  exact ⟨frame, by rw [host]⟩

/-- Settles O43: 89340 ticks lead to (261, 339), where the frames of either length part. -/
theorem frameLength : Obligations.FrameLength := by
  intro s hline hdot
  let t := ticks 89340 s
  obtain ⟨scanline, dot, odd, rendering, frame, frames⟩ : IntoFrame s 89340 t :=
    intoFrame_ticks hline hdot le_rfl
  obtain ⟨counted, handed⟩ := tick_counts_none scanline
  obtain ⟨skips, stays, -, -⟩ := rasterAdvance t
  have skip_iff : skipsDot t.ppu ↔ s.ppu.odd = true ∧ s.ppu.rendering = true := by
    simp only [skipsDot, scanline, dot, odd, rendering, true_and]
  dsimp only
  split
  · next hskip =>
    obtain ⟨line', dot', odd'⟩ := skips (skip_iff.2 hskip)
    rw [show ticks 89341 s = tick t from ticks_succ 89340 s, counted, handed, frame, frames, odd',
      hskip.1]
    exact ⟨line', dot', rfl, rfl, rfl⟩
  · next hskip =>
    obtain ⟨line', dot', odd'⟩ := stays (mt skip_iff.1 hskip) (by omega)
    obtain ⟨counted', handed'⟩ := tick_counts_none (line'.trans scanline)
    obtain ⟨-, -, -, wraps⟩ := rasterAdvance (tick t)
    obtain ⟨line'', dot'', odd''⟩ := wraps (by omega) (by omega)
    have twice : ticks 89342 s = tick (tick t) := by rw [ticks_succ, ticks_succ]
    rw [twice, counted', handed', counted, handed, frame, frames, odd'', odd', odd]
    exact ⟨line'', dot'', rfl, rfl, rfl⟩

/-! ### Pixels drawn (R490) -/

theorem colour_put (fb : FrameBuffer) (i k : Nat) (c : BitVec 6) :
    (fb.put i c).colour k = if k = i then some c else fb.colour k := by
  induction fb with
  | nil => simp [FrameBuffer.put, FrameBuffer.colour, eq_comm]
  | cons entry rest ih =>
    obtain ⟨j, d⟩ := entry
    simp only [FrameBuffer.put]
    split
    · simp only [FrameBuffer.colour, eq_comm (a := k)]
    · split
      · next hj =>
        subst hj
        by_cases hk : j = k <;> simp [FrameBuffer.colour, hk, eq_comm (a := k)]
      · next hj =>
        by_cases hk : j = k
        · simp [FrameBuffer.colour, hk, show k ≠ i from hk ▸ hj]
        · simp only [FrameBuffer.colour, if_neg hk, ih]

/-- The colour that palette entry `e` is drawn in (R490): in grey, and-ed with 0x30. -/
def Ppu.colourOf (p : Ppu) (e : BitVec 5) : BitVec 6 :=
  if p.mask.getLsbD 0 then palGet p.pal e &&& 0x30 else palGet p.pal e

theorem emitPixel_eq (p : Ppu) (x y : Nat) : p.emitPixel x y = { p with
    fb := p.fb.put (y * 256 + x) (p.colourOf (p.composite x).1)
    spr0Hit := p.spr0Hit || (p.composite x).2 } := rfl

/-- The pixel that a tick draws on a visible position. -/
theorem tick_of_visible {s : State}
    (h : s.ppu.scanline ≤ 239 ∧ 1 ≤ s.ppu.dot ∧ s.ppu.dot ≤ 256) :
    let x := s.ppu.dot - 1
    let here := s.ppu.scanline * 256 + x
    (∀ k, (tick s).ppu.fb.colour k =
      if k = here then some (s.ppu.colourOf (s.ppu.composite x).1) else s.ppu.fb.colour k) ∧
    (tick s).ppu.spr0Hit = (s.ppu.spr0Hit || (s.ppu.composite x).2) := by
  rw [tick_frame (by omega), drawn_of_visible h, emitPixel_eq]
  exact ⟨fun k => colour_put _ _ k _, rfl⟩

/-- What a tick leaves of the picture on the other positions. -/
theorem tick_of_not_visible {s : State} (hv : ¬ (s.ppu.scanline = 241 ∧ s.ppu.dot = 1))
    (h : ¬ (s.ppu.scanline ≤ 239 ∧ 1 ≤ s.ppu.dot ∧ s.ppu.dot ≤ 256)) :
    (tick s).ppu.fb = s.ppu.fb ∧
    (tick s).ppu.spr0Hit = (s.ppu.spr0Hit && !(s.ppu.scanline == 261 && s.ppu.dot == 1)) := by
  rw [tick_frame hv, drawn_of_not_visible h, clearFlags_eq]
  exact ⟨rfl, rfl⟩

/-! ### Rendering disabled (R495) -/

theorem composite_of_not_rendering {p : Ppu} (h : p.rendering = false) (x : Nat) :
    p.composite x = (0, false) := by
  simp [Ppu.composite, h, SpritePixel.none]

/-- The sprite-zero flag is raised by a hit only, and lowered at (261, 1) (R491, R493). -/
theorem spr0Hit_of_tick {s : State} (hr : s.ppu.rendering = false)
    (h : (tick s).ppu.spr0Hit = true) : s.ppu.spr0Hit = true := by
  by_cases hv : s.ppu.scanline = 241 ∧ s.ppu.dot = 1
  · rw [tick_of_vblank hv, advance_frame] at h
    exact h
  · by_cases hvis : s.ppu.scanline ≤ 239 ∧ 1 ≤ s.ppu.dot ∧ s.ppu.dot ≤ 256
    · rw [(tick_of_visible hvis).2, composite_of_not_rendering hr] at h
      simpa using h
    · rw [(tick_of_not_visible hv hvis).2, Bool.and_eq_true] at h
      exact h.1

/-- With both layers off, a tick that does not start vertical blank draws, clears and advances. -/
theorem tick_of_not_rendering {s : State} (hr : s.ppu.rendering = false)
    (hv : ¬ (s.ppu.scanline = 241 ∧ s.ppu.dot = 1)) :
    tick s = { drawn s with ppu := (drawn s).ppu.advance } := by
  have off : (drawn s).ppu.rendering = false := by
    rw [drawn_frame]
    exact hr
  rw [tick_of_not_vblank hv, renderPhase_of_not (by simp [off])]

/-- Settles O45: the rendering phase is left out, and the composite pixel is the backdrop. -/
theorem renderingDisabled : Obligations.RenderingDisabled := by
  intro s hr p t
  have frame : t = { p with
      scanline := t.scanline, dot := t.dot, odd := t.odd, frame := t.frame, fb := t.fb
      frameReady := t.frameReady, vblank := t.vblank, spr0Hit := t.spr0Hit
      sprOverflow := t.sprOverflow } ∧ (t.sprOverflow = true → p.sprOverflow = true) := by
    by_cases hv : s.ppu.scanline = 241 ∧ s.ppu.dot = 1
    · rw [show t = _ from congrArg State.ppu (tick_of_vblank hv), advance_frame]
      exact ⟨rfl, id⟩
    · rw [show t = _ from congrArg State.ppu (tick_of_not_rendering hr hv), advance_frame,
        drawn_frame]
      exact ⟨rfl, Bool.and_elim_left⟩
  refine ⟨frame.1, spr0Hit_of_tick hr, frame.2, fun hline hdot hdot' => ?_⟩
  obtain ⟨colour, -⟩ := tick_of_visible (s := s) ⟨hline, hdot, hdot'⟩
  rw [show t = (tick s).ppu from rfl, colour, if_pos rfl, composite_of_not_rendering hr]
  rfl

end Sys2Proof.Machine
end

section
/-! PROOFS. The scroll movements of a dot over the integers. -/

namespace Sys2Proof.Machine

/-! ### Scroll movements (R484) -/

theorem tileX_eq (v : BitVec 15) : tileX v = (bits v 0 5).toNat := by simp [tileX, toNat_bits]

theorem tileY_eq (v : BitVec 15) : tileY v = (bits v 5 5).toNat := by simp [tileY, toNat_bits]

theorem tableX_eq (v : BitVec 15) : tableX v = (bits v 10 1).toNat := by simp [tableX, toNat_bits]

theorem tableY_eq (v : BitVec 15) : tableY v = (bits v 11 1).toNat := by simp [tableY, toNat_bits]

theorem fineY_eq (v : BitVec 15) : fineY v = (bits v 12 3).toNat := by
  have := v.isLt
  rw [fineY, toNat_bits]
  omega

/-- `w` is in the tile column of `v`, of the same table column. -/
def SameColumn (v w : BitVec 15) : Prop := tileX w = tileX v ∧ tableX w = tableX v

/-- `w` is in the pixel row of `v`, of the same table row. -/
def SameRow (v w : BitVec 15) : Prop := tileY w = tileY v ∧ tableY w = tableY v ∧ fineY w = fineY v

theorem SameColumn.trans {u v w : BitVec 15} (h : SameColumn u v) (h' : SameColumn v w) :
    SameColumn u w :=
  ⟨h'.1.trans h.1, h'.2.trans h.2⟩

theorem SameRow.trans {u v w : BitVec 15} (h : SameRow u v) (h' : SameRow v w) : SameRow u w :=
  ⟨h'.1.trans h.1, h'.2.1.trans h.2.1, h'.2.2.trans h.2.2⟩

theorem incX_sameRow (v : BitVec 15) : SameRow v (incX v) := by
  simp only [SameRow, tileY_eq, tableY_eq, fineY_eq, incX]
  split <;> simp

theorem incX_column (v : BitVec 15) : tileX (incX v) = (tileX v + 1) % 32 ∧
    tableX (incX v) = if tileX v = 31 then 1 - tableX v else tableX v := by
  simp only [tileX_eq, tableX_eq]
  unfold incX
  split
  · next h => simp [h]
  · next h =>
    have inner : ¬ (bits v 0 5).toNat = 31 := fun e => h (BitVec.eq_of_toNat_eq e)
    simp [inner, BitVec.toNat_add]

theorem incY_sameColumn (v : BitVec 15) : SameColumn v (incY v) := by
  simp only [SameColumn, tileX_eq, tableX_eq, incY]
  (repeat' split) <;> simp

theorem incY_row (v : BitVec 15) : fineY (incY v) = (fineY v + 1) % 8 ∧
    tileY (incY v) = (if fineY v < 7 then tileY v
      else if tileY v = 29 ∨ tileY v = 31 then 0 else tileY v + 1) ∧
    tableY (incY v) = if fineY v = 7 ∧ tileY v = 29 then 1 - tableY v else tableY v := by
  simp only [fineY_eq, tileY_eq, tableY_eq]
  have hfine := (bits v 12 3).isLt
  have htile := (bits v 5 5).isLt
  unfold incY
  split
  · next h =>
    have inner : ¬ (bits v 12 3).toNat = 7 := fun e => h (BitVec.eq_of_toNat_eq e)
    have below : (bits v 12 3).toNat < 7 := by omega
    simp [inner, below, BitVec.toNat_add]
  · next h =>
    have h : bits v 12 3 = 7 := not_not.1 h
    by_cases h29 : bits v 5 5 = 29#5
    · simp [h, h29]
    · by_cases h31 : bits v 5 5 = 31#5
      · simp [h, h31]
      · have inner : ¬ (bits v 5 5).toNat = 29 := fun e => h29 (BitVec.eq_of_toNat_eq e)
        have last : ¬ (bits v 5 5).toNat = 31 := fun e => h31 (BitVec.eq_of_toNat_eq e)
        have room : ((bits v 5 5).toNat + 1) % 32 = (bits v 5 5).toNat + 1 := by omega
        simp [h, h29, h31, inner, last, room]

theorem copyX_sameRow (v t : BitVec 15) : SameRow v (copyX v t) := by
  simp [SameRow, tileY_eq, tableY_eq, fineY_eq, copyX]

theorem copyX_sameColumn (v t : BitVec 15) : SameColumn t (copyX v t) := by
  simp [SameColumn, tileX_eq, tableX_eq, copyX]

theorem copyY_sameColumn (v t : BitVec 15) : SameColumn v (copyY v t) := by
  simp [SameColumn, tileX_eq, tableX_eq, copyY]

theorem copyY_sameRow (v t : BitVec 15) : SameRow t (copyY v t) := by
  simp [SameRow, tileY_eq, tableY_eq, fineY_eq, copyY]

theorem vFetched_sameRow (p : Ppu) : SameRow p.v p.vFetched := by
  unfold Ppu.vFetched
  split
  · exact incX_sameRow p.v
  · exact ⟨rfl, rfl, rfl⟩

/-- The column is that of `t` at dot 257, else that of the background step. -/
theorem vScrolled_sameColumn (p : Ppu) :
    SameColumn (if p.dot = 257 then p.t else p.vFetched) p.vScrolled := by
  have down : SameColumn p.vFetched p.vDown := by
    unfold Ppu.vDown
    split
    · exact incY_sameColumn _
    · exact ⟨rfl, rfl⟩
  have left : SameColumn (if p.dot = 257 then p.t else p.vFetched) p.vLeft := by
    unfold Ppu.vLeft
    split
    · exact copyX_sameColumn _ _
    · exact down
  unfold Ppu.vScrolled
  by_cases h : p.scanline = 261 ∧ 280 ≤ p.dot ∧ p.dot ≤ 304
  · rw [if_pos h]
    exact left.trans (copyY_sameColumn _ _)
  · rwa [if_neg h]

/-- The row is that of `t` at the top of the frame, else that of `v` after `inc_y`. -/
theorem vScrolled_sameRow (p : Ppu) :
    SameRow (if p.scanline = 261 ∧ 280 ≤ p.dot ∧ p.dot ≤ 304 then p.t else p.vDown)
      p.vScrolled := by
  have left : SameRow p.vDown p.vLeft := by
    unfold Ppu.vLeft
    split
    · exact copyX_sameRow _ _
    · exact ⟨rfl, rfl, rfl⟩
  unfold Ppu.vScrolled
  split
  · exact copyY_sameRow _ _
  · exact left

theorem vScrolled_moved (p : Ppu) : scrollMoved p p.vScrolled := by
  have column := vScrolled_sameColumn p
  have row := vScrolled_sameRow p
  refine ⟨fun h => ?_, fun h => ?_, fun h h' => ?_, fun h => ?_, fun h => ?_, fun h h' => ?_⟩
  · rwa [if_pos h] at column
  · have fetch : fetchDot p.dot := h.1
    have right : p.vFetched = incX p.v := if_pos h
    unfold fetchDot at fetch
    rw [if_neg (by omega), right] at column
    rw [column.1, column.2]
    exact incX_column p.v
  · have still : p.vFetched = p.v := if_neg h'
    rwa [if_neg h, still] at column
  · rwa [if_pos h] at row
  · obtain ⟨tile, table, fine⟩ := vFetched_sameRow p
    have down : p.vDown = incY p.vFetched := if_pos h
    rw [if_neg (by omega), down] at row
    rw [row.1, row.2.1, row.2.2, ← tile, ← table, ← fine]
    exact incY_row p.vFetched
  · have level : p.vDown = p.vFetched := if_neg h'
    rw [if_neg h, level] at row
    exact (vFetched_sameRow p).trans row

end Sys2Proof.Machine
end

section
/-! PROOFS. The background fetch of a dot over the integers: its addresses, and the shift registers. -/

namespace Sys2Proof.Machine

/-! ### Background fetch (R483, R485) -/

/-- Two fields side by side, over the integers. -/
theorem toNat_append_add {m n : Nat} (x : BitVec m) (y : BitVec n) :
    (x ++ y).toNat = x.toNat * 2 ^ n + y.toNat := by
  rw [BitVec.toNat_append, ← Nat.shiftLeft_add_eq_or_of_lt y.isLt, Nat.shiftLeft_eq]

/-- Words of 14 bits are one number when they are one bit by bit, however their widths are written. -/
theorem toNat_eq_of_bits {m n : Nat} {x : BitVec m} {y : BitVec n} (hm : m = 14) (hn : n = 14)
    (h : ∀ i < 14, x.getLsbD i = y.getLsbD i) : x.toNat = y.toNat := by
  subst hm hn
  rw [BitVec.eq_of_getLsbD_eq h]

theorem ntAddr_eq (p : Ppu) : p.ntAddr = BitVec.ofNat 14 (0x2000 + p.v.toNat % 0x1000) := by
  have fields : p.ntAddr.toNat = (2#2 ++ bits p.v 0 12).toNat :=
    toNat_eq_of_bits rfl rfl fun i hi => by
      simp only [BitVec.getLsbD_append]
      interval_cases i <;> simp [Ppu.ntAddr, Ppu.vaddr, bits]
  refine BitVec.eq_of_toNat_eq ?_
  rw [fields, toNat_append_add, toNat_bits, BitVec.toNat_ofNat, BitVec.toNat_ofNat]
  omega

theorem atAddr_eq (p : Ppu) : p.atAddr = BitVec.ofNat 14
    (0x23C0 + p.v.toNat / 1024 % 4 * 0x400 + tileY p.v / 4 * 8 + tileX p.v / 4) := by
  have fields : p.atAddr.toNat =
      (2#2 ++ bits p.v 10 2 ++ 15#4 ++ bits p.v 7 3 ++ bits p.v 2 3).toNat :=
    toNat_eq_of_bits rfl rfl fun i hi => by
      simp only [BitVec.getLsbD_append]
      interval_cases i <;> simp [Ppu.atAddr, Ppu.vaddr, bits]
  have row : p.v.toNat / 32 % 32 / 4 = p.v.toNat / 128 % 8 := by omega
  have column : p.v.toNat % 32 / 4 = p.v.toNat / 4 % 8 := by omega
  refine BitVec.eq_of_toNat_eq ?_
  rw [fields]
  iterate 4 rw [toNat_append_add]
  simp only [toNat_bits, BitVec.toNat_ofNat, tileX, tileY, Nat.reducePow, row, column]
  omega

theorem atShift_eq (p : Ppu) : p.atShift = tileY p.v / 2 % 2 * 4 + tileX p.v / 2 % 2 * 2 := by
  have fields : p.atShift = (0#11 ++ bits p.v 6 1 ++ bits p.v 1 1 ++ 0#1).toNat :=
    toNat_eq_of_bits rfl rfl fun i hi => by
      simp only [BitVec.getLsbD_append]
      interval_cases i <;> simp [Ppu.vaddr, bits]
  have row : p.v.toNat / 32 % 32 / 2 % 2 = p.v.toNat / 64 % 2 := by omega
  have column : p.v.toNat % 32 / 2 % 2 = p.v.toNat / 2 % 2 := by omega
  rw [fields]
  iterate 3 rw [toNat_append_add]
  simp only [toNat_bits, BitVec.toNat_ofNat, tileX, tileY, Nat.reducePow, row, column]
  omega

/-- A pattern address: table, tile and row side by side. -/
theorem patternAddr_eq (bank : BitVec 1) (tile : Byte) {row : BitVec 14} (h : row.toNat < 16) :
    (bank.setWidth 14 <<< 12) ||| (tile.setWidth 14 <<< 4) ||| row =
      BitVec.ofNat 14 (bank.toNat * 0x1000 + tile.toNat * 16 + row.toNat) := by
  obtain ⟨r, rfl⟩ : ∃ r : BitVec 4, row = r.setWidth 14 :=
    ⟨row.setWidth 4, BitVec.eq_of_toNat_eq (by simp; omega)⟩
  have fields : ((bank.setWidth 14 <<< 12) ||| (tile.setWidth 14 <<< 4) ||| r.setWidth 14).toNat =
      (0#1 ++ bank ++ tile ++ r).toNat :=
    toNat_eq_of_bits rfl rfl fun i hi => by
      simp only [BitVec.getLsbD_append]
      interval_cases i <;> simp
  refine BitVec.eq_of_toNat_eq ?_
  have := r.isLt
  simp only [fields, toNat_append_add, BitVec.toNat_ofNat, BitVec.toNat_setWidth]
  omega

/-- A field of one bit as a choice. -/
theorem toNat_bits_one_mul {n : Nat} (v : BitVec n) (i c : Nat) :
    (bits v i 1).toNat * c = if v.getLsbD i then c else 0 := by
  have one : ∀ x : BitVec 1, x.toNat = if x.getLsbD 0 then 1 else 0 := by decide
  have bit : (bits v i 1).getLsbD 0 = v.getLsbD i := by simp [bits]
  rw [one, bit, ite_mul, one_mul, zero_mul]

/-- The number of the pattern byte of the fetched tile (R483). -/
def Ppu.patternNumber (p : Ppu) : Nat :=
  (if p.ctrl.getLsbD 4 then 0x1000 else 0) + p.ntByte.toNat * 16 + fineY p.v

theorem ptAddr_eq (p : Ppu) : p.ptAddr = BitVec.ofNat 14 p.patternNumber := by
  have line := (bits p.v 12 3).isLt
  have row : ((bits p.v 12 3).setWidth 14).toNat = (bits p.v 12 3).toNat := by
    rw [BitVec.toNat_setWidth]
    omega
  rw [Ppu.ptAddr, patternAddr_eq _ _ (by omega), row, ← fineY_eq, toNat_bits_one_mul,
    Ppu.patternNumber]

theorem ptAddr_or_eight (p : Ppu) : p.ptAddr ||| 8 = BitVec.ofNat 14 (p.patternNumber + 8) := by
  have row : ∀ y : BitVec 3, (y.setWidth 14 ||| 8 : BitVec 14).toNat = y.toNat + 8 := by decide
  have line := (bits p.v 12 3).isLt
  rw [Ppu.ptAddr, BitVec.or_assoc, patternAddr_eq _ _ (by rw [row]; omega), row, ← fineY_eq,
    toNat_bits_one_mul, Ppu.patternNumber, Nat.add_assoc _ _ 8]

theorem shifted_shiftLeft (k : Nat) (r : BitVec 16) (load : Byte) :
    shifted k r load (if k = 7 then putBits (r <<< 1) 0 load else r <<< 1) := by
  have moved : (r <<< 1).toNat = 2 * r.toNat % 65536 := by
    rw [BitVec.toNat_shiftLeft, Nat.shiftLeft_eq, Nat.mul_comm]
  unfold shifted
  rw [← moved]
  split
  · have low := congrArg BitVec.toNat (bits_putBits_same (lo := 0) (by decide) (r <<< 1) load)
    have high := congrArg BitVec.toNat
      (bits_putBits_beside (lo := 0) (lo' := 8) (l := 8) (by decide) (r <<< 1) load)
    rw [toNat_bits] at low high
    rw [toNat_bits] at high
    have := (putBits (r <<< 1) 0 load).isLt
    omega
  · rfl

/-- The background step of a dot over the integers. -/
theorem bgPhase_fetched (s : State) : backgroundFetched s (bgPhase s).ppu := by
  constructor
  · intro h
    have step : bgPhase s = bgStep s.ppu.dot s := if_pos h
    rw [step, bgStep_eq]
    dsimp only
    refine ⟨?_, ?_, ?_, ?_, shifted_shiftLeft .., shifted_shiftLeft .., shifted_shiftLeft ..,
      shifted_shiftLeft ..⟩
    · rw [ntAddr_eq]
      rfl
    · rw [apply_ite BitVec.toNat, toNat_bits, BitVec.toNat_ushiftRight, atAddr_eq, atShift_eq,
        Nat.shiftRight_eq_div_pow, Nat.pow_zero, Nat.div_one]
      rfl
    · rw [ptAddr_eq]
      rfl
    · rw [ptAddr_or_eight]
      rfl
  · intro h
    have still : bgPhase s = s := if_neg h
    rw [still]
    exact ⟨rfl, rfl, rfl, rfl, rfl, rfl, rfl, rfl⟩

end Sys2Proof.Machine
end

section
/-! PROOFS. The sprite evaluation: the sprites that cover a line, the slots they fill, and the patterns
of their rows. -/

namespace Sys2Proof.Machine

/-! ### Sprite evaluation (R487) -/

/-- The slot of sprite `n` for its row of the line after `line`. -/
def slotOf (s : State) (line n : Nat) : Sprite :=
  fetchSprite s n (line - (s.ppu.oam.get (4 * n)).toNat)

/-- Sprite `n` put into the next slot. -/
def Ppu.putSprite (p : Ppu) (n : Nat) (sp : Sprite) : Ppu :=
  { p with
    slots := p.slots.setIfInBounds p.slotCount sp
    slotCount := p.slotCount + 1
    slot0IsSpr0 := p.slot0IsSpr0 || n == 0 }

/-- The sprites of a list put into the slots until a ninth overflows (R487). -/
def fillSlots (s : State) (line : Nat) : List Nat → Ppu → Ppu
  | [], p => p
  | n :: rest, p =>
    if p.slotCount < 8 then fillSlots s line rest (p.putSprite n (slotOf s line n))
    else { p with sprOverflow := true }

/-- The evaluation puts the sprites in range into the slots. -/
theorem evalSprites_eq_fillSlots (s : State) (line fuel n : Nat) (p : Ppu) :
    evalSprites s line fuel n p =
      fillSlots s line ((List.range' n fuel).filter (s.ppu.spriteInRange line)) p := by
  induction fuel generalizing n p with
  | zero => rfl
  | succ fuel ih =>
    rw [evalSprites, List.range'_succ, List.filter_cons]
    split
    · rw [fillSlots]
      split
      · exact ih _ _
      · rfl
    · exact ih _ _

section
variable (s : State) (line : Nat)

theorem fillSlots_count (l : List Nat) {p : Ppu} (h : p.slotCount ≤ 8) :
    (fillSlots s line l p).slotCount = min 8 (p.slotCount + l.length) ∧
    (fillSlots s line l p).sprOverflow =
      (p.sprOverflow || decide (8 < p.slotCount + l.length)) := by
  induction l generalizing p with
  | nil => simp [fillSlots, h]
  | cons n rest ih =>
    rw [fillSlots, List.length_cons, ← Nat.add_assoc, Nat.add_right_comm]
    split
    · next hlt => exact ih (p := p.putSprite n (slotOf s line n)) hlt
    · next hlt =>
      have full : 8 < p.slotCount + 1 + rest.length := by omega
      exact ⟨by simp only; omega, by simp [full]⟩

/-- Only sprite 0 raises the mark of sprite 0. -/
theorem fillSlots_slot0_of_not_mem {l : List Nat} (h : 0 ∉ l) (p : Ppu) :
    (fillSlots s line l p).slot0IsSpr0 = p.slot0IsSpr0 := by
  induction l generalizing p with
  | nil => rfl
  | cons n rest ih =>
    rw [List.mem_cons, not_or] at h
    have other : (n == 0) = false := by simpa using Ne.symm h.1
    rw [fillSlots]
    split
    · rw [ih h.2, Ppu.putSprite, other, Bool.or_false]
    · rfl

/-- In a rising list sprite 0 can only be the first. -/
theorem fillSlots_slot0 {l : List Nat} (hl : l.Pairwise (· < ·)) {p : Ppu}
    (hcount : p.slotCount < 8) (hmark : p.slot0IsSpr0 = false) :
    (fillSlots s line l p).slot0IsSpr0 = (l.head? == some 0) := by
  cases l with
  | nil => exact hmark
  | cons n rest =>
    have later : 0 ∉ rest := fun h => Nat.not_lt_zero n (List.rel_of_pairwise_cons hl h)
    rw [fillSlots, if_pos hcount, fillSlots_slot0_of_not_mem s line later, Ppu.putSprite, hmark]
    rfl

/-- A slot holds the sprite at its place in the list, and is as before past the list's end. -/
theorem fillSlots_get (l : List Nat) (p : Ppu) (i : Fin 8) :
    (p.slotCount ≤ i.val → i.val < p.slotCount + l.length →
      (fillSlots s line l p).slots.get i = slotOf s line (l.getD (i.val - p.slotCount) 0)) ∧
    (i.val < p.slotCount ∨ p.slotCount + l.length ≤ i.val →
      (fillSlots s line l p).slots.get i = p.slots.get i) := by
  induction l generalizing p with
  | nil => exact ⟨fun h h' => absurd h' (by simpa using h), fun _ => rfl⟩
  | cons n rest ih =>
    rw [fillSlots, List.length_cons]
    split
    · next hlt =>
      obtain ⟨filled, kept⟩ := ih (p.putSprite n (slotOf s line n))
      simp only [Ppu.putSprite] at filled kept
      refine ⟨fun hle hi => ?_, fun hi => ?_⟩
      · by_cases here : p.slotCount = i.val
        · rw [Ppu.putSprite, kept (by omega)]
          simp [here, Vector.get_eq_getElem]
        · obtain ⟨j, hj⟩ : ∃ j, i.val - p.slotCount = j + 1 := ⟨i.val - p.slotCount - 1, by omega⟩
          rw [Ppu.putSprite, filled (by omega) (by omega), hj, List.getD_cons_succ,
            show i.val - (p.slotCount + 1) = j by omega]
      · have other : p.slotCount ≠ i.val := by omega
        rw [Ppu.putSprite, kept (by omega)]
        simp [Vector.get_eq_getElem, other]
    · next hlt => exact ⟨fun h => by omega, fun _ => rfl⟩

end

/-- The sprites in range are those that cover the next line. -/
theorem filter_spriteInRange (p : Ppu) (line : Nat) :
    (List.range' 0 64).filter (p.spriteInRange line) = spritesCovering p line := by
  rw [spritesCovering, List.range_eq_range']
  refine List.filter_congr fun n _ => ?_
  have rows : p.spriteHeight = spriteRows p := rfl
  have positive : 0 < spriteRows p := by unfold spriteRows; split <;> decide
  simp only [Ppu.spriteInRange, rows, ← Bool.decide_and]
  exact decide_eq_decide.2 (by omega)

theorem spritesCovering_rising (p : Ppu) (line : Nat) : (spritesCovering p line).Pairwise (· < ·) :=
  List.pairwise_lt_range.filter _

theorem mem_spritesCovering {p : Ppu} {line n : Nat} (h : n ∈ spritesCovering p line) :
    (p.oam.get (4 * n)).toNat ≤ line ∧ line < (p.oam.get (4 * n)).toNat + spriteRows p := by
  simpa using (List.mem_filter.1 h).2

/-! ### Sprite patterns (R488) -/

theorem getLsbD_bitrev8 (b : Byte) {k : Nat} (hk : k < 8) :
    (bitrev8 b).getLsbD k = b.getLsbD (7 - k) := by
  interval_cases k <;> simp [bitrev8, bitAt]

theorem getLsbD_flipped (flip : Bool) (b : Byte) {k : Nat} (hk : k < 8) :
    (if flip then bitrev8 b else b).getLsbD k = b.getLsbD (if flip then 7 - k else k) := by
  cases flip
  · rfl
  · exact getLsbD_bitrev8 b hk

/-- The row of a sprite's pattern after the vertical flip (R488). -/
def Ppu.patternRow (p : Ppu) (attr : Byte) (row : Nat) : Nat :=
  if attr.getLsbD 7 then spriteRows p - 1 - row else row

/-- The number of the low pattern byte of a sprite (R488). -/
def Ppu.spriteNumber (p : Ppu) (tile attr : Byte) (row : Nat) : Nat :=
  if p.ctrl.getLsbD 5 then
    tile.toNat % 2 * 0x1000 + (tile.toNat / 2 * 2 + p.patternRow attr row / 8) * 16 +
      p.patternRow attr row % 8
  else
    (if p.ctrl.getLsbD 3 then 0x1000 else 0) + tile.toNat * 16 + p.patternRow attr row

/-- The tile of a row of a tall sprite (R488): the even tile, or the odd one below it. -/
theorem toNat_tallTile (tile : Byte) {r : Nat} (h : r < 16) :
    ((tile &&& 0xFE) + if 8 ≤ r then 1 else 0).toNat = tile.toNat / 2 * 2 + r / 8 := by
  have even : ∀ tile : Byte, (tile &&& 0xFE).toNat = tile.toNat / 2 * 2 := by decide +kernel
  have := tile.isLt
  rw [BitVec.toNat_add, even]
  split
  · rw [show (1 : Byte).toNat = 1 from rfl]
    omega
  · rw [show (0 : Byte).toNat = 0 from rfl]
    omega

theorem spriteAddr_eq (p : Ppu) (tile attr : Byte) {row : Nat} (h : row < spriteRows p) :
    p.spriteAddr tile attr row = BitVec.ofNat 14 (p.spriteNumber tile attr row) := by
  have hrow : p.patternRow attr row < spriteRows p := by
    unfold Ppu.patternRow
    split <;> omega
  have unflipped : (if attr.getLsbD 7 then p.spriteHeight - 1 - row else row) =
      p.patternRow attr row := rfl
  unfold Ppu.spriteAddr Ppu.spriteNumber
  rw [unflipped]
  unfold spriteRows at hrow
  generalize p.patternRow attr row = r at hrow
  dsimp only
  by_cases hsize : p.ctrl.getLsbD 5 = true
  · rw [if_pos hsize] at hrow
    have value : (BitVec.ofNat 14 (r % 8)).toNat = r % 8 := by rw [BitVec.toNat_ofNat]; omega
    rw [if_neg (by simpa using hsize), if_pos hsize, patternAddr_eq _ _ (by omega), value,
      toNat_tallTile tile hrow, toNat_bits, Nat.pow_zero, Nat.div_one]
    rfl
  · rw [if_neg hsize] at hrow
    have value : (BitVec.ofNat 14 r).toNat = r := by rw [BitVec.toNat_ofNat]; omega
    rw [if_pos (by simpa using hsize), if_neg hsize, patternAddr_eq _ _ (by omega), value,
      toNat_bits_one_mul]

/-- A slot holds its sprite with the pattern of its row. -/
theorem slotOf_fetched (s : State) {line n : Nat} (h : n ∈ spritesCovering s.ppu line) :
    spriteFetched s line n (slotOf s line n) := by
  obtain ⟨above, below⟩ := mem_spritesCovering h
  let row := line - (s.ppu.oam.get (4 * n)).toNat
  have hrow : row < spriteRows s.ppu := by omega
  have low := spriteAddr_eq s.ppu (s.ppu.oam.get (4 * n + 1)) (s.ppu.oam.get (4 * n + 2)) hrow
  have high (m : Nat) : BitVec.ofNat 14 m + 8 = BitVec.ofNat 14 (m + 8) :=
    (BitVec.ofNat_add ..).symm
  refine ⟨rfl, rfl, rfl, rfl, fun k hk => ?_⟩
  simp only [slotOf, fetchSprite, getLsbD_flipped _ _ hk]
  rw [low, high]
  exact ⟨rfl, rfl⟩

/-! ### The sprites of a tick (R487) -/

/-- The sprites that `q` holds are those of `s` that cover the line after `line`. -/
def HoldsCovering (s : State) (line : Nat) (q : Ppu) : Prop :=
  let found := spritesCovering s.ppu line
  q.slotCount = min 8 found.length ∧ q.slot0IsSpr0 = (found.head? == some 0) ∧
  q.sprOverflow = (s.ppu.sprOverflow || decide (8 < found.length)) ∧
  ∀ i : Fin 8,
    (i.val < found.length → spriteFetched s line (found.getD i.val 0) (q.slots.get i)) ∧
    (found.length ≤ i.val → q.slots.get i = s.ppu.slots.get i)

theorem spritesCovering_congr {p q : Ppu} (oam : q.oam = p.oam) (ctrl : q.ctrl = p.ctrl) :
    spritesCovering q = spritesCovering p := by
  unfold spritesCovering spriteRows
  rw [oam, ctrl]

theorem spriteFetched_congr {s u : State} (oam : u.ppu.oam = s.ppu.oam)
    (ctrl : u.ppu.ctrl = s.ppu.ctrl) (video : videoByte u = videoByte s) :
    spriteFetched u = spriteFetched s := by
  unfold spriteFetched spriteRows
  dsimp only
  rw [oam, ctrl, video]

/-- What the sprites of a line depend on: object memory, the control register and video memory. -/
theorem HoldsCovering.congr {s u : State} {line : Nat} {q : Ppu} (h : HoldsCovering u line q)
    (oam : u.ppu.oam = s.ppu.oam) (ctrl : u.ppu.ctrl = s.ppu.ctrl)
    (video : videoByte u = videoByte s) (slots : u.ppu.slots = s.ppu.slots)
    (overflow : u.ppu.sprOverflow = s.ppu.sprOverflow) : HoldsCovering s line q := by
  unfold HoldsCovering at h ⊢
  rwa [spritesCovering_congr oam ctrl, spriteFetched_congr oam ctrl video, slots, overflow] at h

/-- At dot 257 of a visible line the slots are filled for the next one. -/
theorem spritePhase_holdsCovering {s : State} (hdot : s.ppu.dot = 257)
    (hline : s.ppu.scanline ≤ 239) :
    HoldsCovering s s.ppu.scanline (spritePhase s).ppu := by
  let u : State := { s with ppu := { s.ppu with v := copyX s.ppu.v s.ppu.t } }
  let line := s.ppu.scanline
  let found := spritesCovering s.ppu line
  let start : Ppu := { u.ppu with slotCount := 0, slot0IsSpr0 := false }
  have filled : (spritePhase s).ppu = fillSlots u line found start := by
    have evaluated : (spritePhase s).ppu = evalSprites u line 64 0 start := by
      rw [spritePhase, if_pos hdot, spriteStep, if_neg (by omega)]
    rw [evaluated, evalSprites_eq_fillSlots, filter_spriteInRange]
    rfl
  rw [filled]
  obtain ⟨count, overflow⟩ := fillSlots_count u line found (p := start) (Nat.zero_le 8)
  have mark := fillSlots_slot0 u line (spritesCovering_rising s.ppu line) (p := start)
    (Nat.zero_lt_succ 7) rfl
  refine ⟨by simpa [start] using count, mark, by simpa [start] using overflow, fun i => ?_⟩
  obtain ⟨held, kept⟩ := fillSlots_get u line found start i
  refine ⟨fun hi => ?_, fun hi => kept (.inr ?_)⟩
  · rw [held (Nat.zero_le _) (by simpa [start] using hi)]
    exact slotOf_fetched s (List.getD_eq_getElem found 0 hi ▸ List.getElem_mem hi)
  · simpa [start] using hi

/-- At dot 257 of line 261 the slots are emptied. -/
theorem spritePhase_of_261 {s : State} (hdot : s.ppu.dot = 257) (hline : s.ppu.scanline = 261) :
    (spritePhase s).ppu =
      { s.ppu with v := copyX s.ppu.v s.ppu.t, slotCount := 0, slot0IsSpr0 := false } := by
  rw [spritePhase, if_pos hdot, spriteStep, if_pos hline]

end Sys2Proof.Machine
end

section
/-! PROOFS. Pixels, the sprite-zero hit, and a tick with rendering on. -/

namespace Sys2Proof.Machine

/-! ### Pixels (R486, R489) -/

theorem toNat_twoBits (hi lo : Bool) :
    (BitVec.ofBool hi ++ BitVec.ofBool lo).toNat = twoBits hi lo := by
  cases hi <;> cases lo <;> rfl

/-- A layer is seen at column `x`: it is on, and not clipped there with the left eight columns (R486,
R489). -/
theorem layer_iff (on left : Bool) (x : Nat) :
    (on && (decide (8 ≤ x) || left)) = true ↔ on = true ∧ (8 ≤ x ∨ left = true) := by
  simp

theorem bgPixel_eq (p : Ppu) (x : Nat) :
    ((p.bgPixel x).1.toNat, (p.bgPixel x).2.toNat) = backgroundPixel p x := by
  unfold Ppu.bgPixel backgroundPixel
  simp only [layer_iff]
  split
  · simp only [toNat_twoBits]
  · rfl

theorem toNat_pixelAt (sp : Sprite) (x : Nat) : (sp.pixelAt x).toNat = slotPixel sp x := by
  have inside : sp.x.toNat ≤ x ∧ x - sp.x.toNat ≤ 7 ↔ sp.x.toNat ≤ x ∧ x ≤ sp.x.toNat + 7 := by omega
  unfold Sprite.pixelAt slotPixel
  simp only [inside]
  split
  · next h =>
    rw [toNat_twoBits, show 7 - (x - sp.x.toNat) = sp.x.toNat + 7 - x by omega]
  · rfl

theorem pixelAt_eq_zero (sp : Sprite) (x : Nat) : sp.pixelAt x = 0 ↔ slotPixel sp x = 0 := by
  rw [← toNat_pixelAt, BitVec.toNat_eq]
  rfl

/-- The pixel of a sprite that is seen at `x` (R489). -/
def Sprite.seenAt (sp : Sprite) (x : Nat) (is0 : Bool) : SpritePixel :=
  ⟨sp.pixelAt x, 1#1 ++ bits sp.attr 0 2, sp.attr.getLsbD 5, is0⟩

theorem scanSlots_eq_none {x : Nat} {l : List Sprite} (h : ∀ sp ∈ l, sp.pixelAt x = 0)
    (is0 : Bool) : scanSlots x is0 l = SpritePixel.none := by
  induction l generalizing is0 with
  | nil => rfl
  | cons sp rest ih =>
    rw [scanSlots, if_neg (not_not.2 (h sp List.mem_cons_self))]
    exact ih (fun sp' h' => h sp' (List.mem_cons_of_mem _ h')) false

/-- The first slot of the list with a pixel is seen; it is sprite 0's only if it is the head. -/
theorem scanSlots_eq_seen {x : Nat} {l : List Sprite} {i : Nat} (hi : i < l.length)
    (hpx : l[i].pixelAt x ≠ 0) (hbefore : ∀ j (h : j < i), (l[j]).pixelAt x = 0) (is0 : Bool) :
    scanSlots x is0 l = l[i].seenAt x (is0 && i == 0) := by
  induction l generalizing i is0 with
  | nil => exact absurd hi (Nat.not_lt_zero i)
  | cons sp rest ih =>
    cases i with
    | zero =>
      have head : sp.pixelAt x ≠ 0 := hpx
      rw [scanSlots, if_pos head, beq_self_eq_true, Bool.and_true]
      rfl
    | succ i =>
      have head : sp.pixelAt x = 0 := hbefore 0 (Nat.zero_lt_succ i)
      rw [scanSlots, if_neg (not_not.2 head),
        ih (Nat.lt_of_succ_lt_succ hi) hpx (fun j h => hbefore (j + 1) (Nat.succ_lt_succ h))]
      simp

/-- The slots that hold a sprite, as a list. -/
def Ppu.heldSlots (p : Ppu) : List Sprite := p.slots.toList.take p.slotCount

theorem length_heldSlots (p : Ppu) : p.heldSlots.length = min p.slotCount 8 := by
  simp [Ppu.heldSlots]

theorem heldSlots_getElem (p : Ppu) (i : Fin 8) (h : i.val < p.heldSlots.length) :
    p.heldSlots[i.val] = p.slots.get i := by
  simp [Ppu.heldSlots, Vector.get_eq_getElem]

/-- The slot seen is the first that holds a sprite with a pixel there (R489). -/
theorem find_slot_eq_some {p : Ppu} {x : Nat} {i : Fin 8}
    (h : ((List.finRange 8).find? fun i =>
      decide (i.val < p.slotCount ∧ slotPixel (p.slots.get i) x ≠ 0)) = some i) :
    i.val < p.slotCount ∧ slotPixel (p.slots.get i) x ≠ 0 ∧
    ∀ j < i, slotPixel (p.slots.get j) x = 0 := by
  rw [← Fin.find?_eq_find?_finRange, Fin.find?_eq_some_iff, decide_eq_true_iff] at h
  obtain ⟨⟨held, pixel⟩, before⟩ := h
  refine ⟨held, pixel, fun j hj => ?_⟩
  have unseen := of_decide_eq_false (before j hj)
  by_contra hpx
  exact unseen ⟨by omega, hpx⟩

/-- The sprite pixel is that of the slot seen (R489). -/
theorem sprPixel_eq (p : Ppu) (x : Nat) : p.sprPixel x =
    match slotSeen p x with
    | none => SpritePixel.none
    | some i => (p.slots.get i).seenAt x (p.slot0IsSpr0 && i.val == 0) := by
  have held : p.slots.toList.take p.slotCount = p.heldSlots := rfl
  have length := length_heldSlots p
  unfold Ppu.sprPixel slotSeen
  simp only [layer_iff, held]
  split
  · cases hfind : (List.finRange 8).find? _ with
    | none =>
      refine scanSlots_eq_none (fun sp hsp => ?_) _
      obtain ⟨j, hj, rfl⟩ := List.getElem_of_mem hsp
      let i : Fin 8 := ⟨j, by omega⟩
      have unseen := List.find?_eq_none.1 hfind i (List.mem_finRange i)
      rw [decide_eq_true_iff, ← heldSlots_getElem p i hj, Ne, ← pixelAt_eq_zero] at unseen
      by_contra hpx
      exact unseen ⟨by simp only [i]; omega, hpx⟩
    | some i =>
      obtain ⟨hi, hpx, before⟩ := find_slot_eq_some hfind
      have inList (j : Fin 8) (h : j ≤ i) : j.val < p.heldSlots.length := by omega
      rw [scanSlots_eq_seen (inList i le_rfl)]
      · rw [heldSlots_getElem p i (inList i le_rfl)]
      · rwa [heldSlots_getElem p i (inList i le_rfl), Ne, pixelAt_eq_zero]
      · intro j hj
        let k : Fin 8 := ⟨j, by omega⟩
        rw [heldSlots_getElem p k (inList k (Nat.le_of_lt hj)), pixelAt_eq_zero]
        exact before k hj
  · rfl

theorem slotPixel_of_seen {p : Ppu} {x : Nat} {i : Fin 8} (h : slotSeen p x = some i) :
    slotPixel (p.slots.get i) x ≠ 0 := by
  unfold slotSeen at h
  split at h
  · obtain ⟨-, pixel, -⟩ := find_slot_eq_some h
    exact pixel
  · exact absurd h (Option.some_ne_none i).symm

/-! ### The composited pixel (R490, R491) -/

theorem backgroundEntry_eq (pal px : BitVec 2) :
    (pal ++ px).setWidth 5 = BitVec.ofNat 5 (4 * pal.toNat + px.toNat) :=
  BitVec.eq_of_toNat_eq (by
    rw [BitVec.toNat_setWidth, toNat_append_add, BitVec.toNat_ofNat]
    omega)

/-- The palettes of sprites are those from 4 on (R489). -/
theorem spriteEntry_eq (sp : Sprite) (x : Nat) :
    (1#1 ++ bits sp.attr 0 2) ++ sp.pixelAt x =
      BitVec.ofNat 5 (4 * (4 + sp.attr.toNat % 4) + slotPixel sp x) := by
  have := (sp.pixelAt x).isLt
  refine BitVec.eq_of_toNat_eq ?_
  rw [toNat_append_add, toNat_append_add, toNat_bits, BitVec.toNat_ofNat, BitVec.toNat_ofNat,
    ← toNat_pixelAt]
  omega

/-- The palette entry and the sprite-zero hit of a pixel while rendering. -/
theorem composite_eq {p : Ppu} (hr : p.rendering = true) (x : Nat) :
    p.composite x = (BitVec.ofNat 5 (entryDrawn p x), hitsSpriteZero p x) := by
  have background := bgPixel_eq p x
  have transparent : (p.bgPixel x).1 = 0 ↔ (backgroundPixel p x).1 = 0 := by
    rw [← background, BitVec.toNat_eq]
    rfl
  have entry : ((p.bgPixel x).2 ++ (p.bgPixel x).1).setWidth 5 =
      BitVec.ofNat 5 (4 * (backgroundPixel p x).2 + (backgroundPixel p x).1) := by
    rw [backgroundEntry_eq, ← background]
  unfold Ppu.composite entryDrawn hitsSpriteZero
  simp only [hr, if_true, sprPixel_eq, entry, transparent]
  cases hseen : slotSeen p x with
  | none =>
    by_cases hbg : (backgroundPixel p x).1 = 0
    · simp [hbg, SpritePixel.none]
    · simp [hbg, SpritePixel.none]
  | some i =>
    have seen : (p.slots.get i).pixelAt x ≠ 0 :=
      mt (pixelAt_eq_zero _ x).1 (slotPixel_of_seen hseen)
    simp only [Sprite.seenAt, spriteEntry_eq, if_neg seen]
    by_cases hbg : (backgroundPixel p x).1 = 0
    · simp [hbg]
    · have hit : (p.slot0IsSpr0 && i.val == 0 && x != 255) =
          decide (i = 0 ∧ p.slot0IsSpr0 = true ∧ x ≠ 255) := by
        have first : i.val = 0 ↔ i = 0 := Fin.val_eq_zero_iff
        rw [Bool.eq_iff_iff, decide_eq_true_iff, Bool.and_eq_true, Bool.and_eq_true, beq_iff_eq,
          bne_iff_ne, first, and_right_comm, and_comm]
      simp only [hbg, if_false, hit, ne_eq, not_false_eq_true, true_and, Option.some.injEq,
        apply_ite (BitVec.ofNat 5)]

/-! ### The tick (R481) -/

/-- A tick of a render line while rendering, by its parts. -/
theorem tick_of_rendering {s : State} (hr : s.ppu.rendering = true)
    (hl : s.ppu.scanline ≤ 239 ∨ s.ppu.scanline = 261) :
    let t := (tick s).ppu
    let q := (drawn s).ppu
    t = { (s.ppu.withBackground (bgPhase (drawn s)).ppu).withSprites
        (spritePhase (fetched (drawn s))).ppu with
      v := s.ppu.vScrolled, vblank := q.vblank, fb := q.fb, spr0Hit := q.spr0Hit
      scanline := t.scanline, dot := t.dot, odd := t.odd } := by
  have on : (drawn s).ppu.rendering = true := by rw [drawn_frame]; exact hr
  have line : (drawn s).ppu.scanline ≤ 239 ∨ (drawn s).ppu.scanline = 261 := by
    rwa [(drawn_acted s).scanline]
  dsimp only
  rw [tick_of_not_vblank (by omega), renderPhase_of_rendering on line, advance_frame,
    drawn_frame]
  rfl

theorem tick_backgroundFetched {s : State} (hr : s.ppu.rendering = true)
    (hl : s.ppu.scanline ≤ 239 ∨ s.ppu.scanline = 261) : backgroundFetched s (tick s).ppu := by
  have fetch := bgPhase_fetched (drawn s)
  rw [tick_of_rendering hr hl]
  generalize (bgPhase (drawn s)).ppu = b at fetch ⊢
  rw [drawn_frame] at fetch
  exact fetch

theorem tick_scrollMoved {s : State} (hr : s.ppu.rendering = true)
    (hl : s.ppu.scanline ≤ 239 ∨ s.ppu.scanline = 261) : scrollMoved s.ppu (tick s).ppu.v := by
  rw [tick_of_rendering hr hl]
  exact vScrolled_moved s.ppu

/-- The state that the sprite evaluation of a tick sees differs from `s` in nothing that it reads. -/
theorem fetched_drawn (s : State) :
    let b := (bgPhase (drawn s)).ppu
    let q := (drawn s).ppu
    fetched (drawn s) = { s with ppu := { s.ppu.withBackground b with
      v := s.ppu.vDown, vblank := q.vblank, fb := q.fb, spr0Hit := q.spr0Hit
      sprOverflow := s.ppu.sprOverflow && !(s.ppu.scanline == 261 && s.ppu.dot == 1) } } := by
  dsimp only
  rw [fetched_eq]
  generalize (bgPhase (drawn s)).ppu = b
  rw [drawn_frame]
  rfl

theorem tick_spritesEvaluated {s : State} (hr : s.ppu.rendering = true)
    (hl : s.ppu.scanline ≤ 239 ∨ s.ppu.scanline = 261) : spritesEvaluated s (tick s).ppu := by
  have sees := fetched_drawn s
  dsimp only at sees
  rw [tick_of_rendering hr hl]
  refine ⟨fun h => ?_, fun h h' => ?_, fun h h' => ?_⟩
  · rw [spritePhase_of_ne (by rw [sees]; exact h), sees]
    exact ⟨rfl, rfl, rfl, rfl⟩
  · rw [spritePhase_of_261 (by rw [sees]; exact h) (by rw [sees]; exact h'), sees]
    exact ⟨rfl, rfl, rfl, by simp [h, Ppu.withSprites]⟩
  · have holds := spritePhase_holdsCovering (s := fetched (drawn s)) (by rw [sees]; exact h)
      (by rw [sees]; exact h')
    have line : (fetched (drawn s)).ppu.scanline = s.ppu.scanline := by rw [sees]; rfl
    have kept : (s.ppu.scanline == 261 && s.ppu.dot == 1) = false := by simp [h]
    rw [line] at holds
    have holds := holds.congr (s := s) (by rw [sees]; rfl) (by rw [sees]; rfl) (by rw [sees]; rfl)
      (by rw [sees]; rfl) (by rw [sees, kept, Bool.not_false, Bool.and_true])
    generalize (spritePhase (fetched (drawn s))).ppu = e at holds ⊢
    exact holds

/-- Settles O60: background, scroll and sprites on a render line, the pixel on a visible position. -/
theorem renderingPipeline : Obligations.RenderingPipeline := by
  intro s hr p t renderLine visible
  refine ⟨fun hl => ⟨tick_backgroundFetched hr hl, tick_scrollMoved hr hl,
    tick_spritesEvaluated hr hl, ?_⟩, fun hl => ?_, fun hv => ?_, fun hl hv => ?_⟩
  · rw [show t = _ from tick_of_rendering hr hl]
    generalize (bgPhase (drawn s)).ppu = b, (spritePhase (fetched (drawn s))).ppu = e,
      (drawn s).ppu = q, (tick s).ppu = u
    rfl
  · have line : ¬ (s.ppu.scanline ≤ 239 ∨ s.ppu.scanline = 261) := hl
    have dark : drawn s = s := by
      rw [drawn_of_not_visible (by omega), clearFlags_of_not (by omega)]
    by_cases hv : s.ppu.scanline = 241 ∧ s.ppu.dot = 1
    · rw [show t = _ from congrArg State.ppu (tick_of_vblank hv), advance_frame]
      rfl
    · rw [show t = _ from congrArg State.ppu (tick_of_not_vblank hv), dark,
        renderPhase_of_not (fun h => hl h.2), advance_frame]
  · intro x here c
    obtain ⟨colour, hit⟩ := tick_of_visible hv
    rw [composite_eq hr] at colour hit
    exact ⟨(colour here).trans (if_pos rfl), fun k hk => (colour k).trans (if_neg hk), hit⟩
  · have line : s.ppu.scanline ≤ 239 ∨ s.ppu.scanline = 261 := hl
    exact tick_of_not_visible (by omega) hv

end Sys2Proof.Machine
end

section
/-! PROOFS. The audio channels over the integers: envelopes, length counters, sweeps, the linear counter
and the timers. -/

namespace Sys2Proof.Machine

/-! ### Counters -/

theorem eq_zero_iff_toNat {n : Nat} {x : BitVec n} : x = 0 ↔ x.toNat = 0 := by
  rw [BitVec.toNat_eq]
  rfl

/-- A counter above 0 falls without a borrow. -/
theorem toNat_sub_one {n : Nat} {x : BitVec n} (h : x.toNat ≠ 0) : (x - 1).toNat = x.toNat - 1 := by
  have := x.isLt
  have one : (1 : BitVec n).toNat = 1 :=
    (BitVec.toNat_ofNat 1 n).trans (Nat.mod_eq_of_lt (by omega))
  rw [BitVec.toNat_sub_of_le (by rw [BitVec.le_def, one]; omega), one]

/-! ### Envelopes and length counters (R561, R562) -/

theorem Envelope.clock_clocked (e : Envelope) : envelopeClocked e e.clock := by
  by_cases hs : e.start = true
  · simp [envelopeClocked, Envelope.clock, hs]
  rw [Envelope.clock, if_neg hs]
  by_cases hd : e.div = 0
  · have decay : (if e.decay ≠ 0 then e.decay - 1 else if e.loop then 15 else e.decay).toNat =
        if 0 < e.decay.toNat then e.decay.toNat - 1 else if e.loop then 15 else 0 := by
      by_cases h0 : e.decay = 0
      · simp only [h0]
        cases e.loop <;> rfl
      · have above : e.decay.toNat ≠ 0 := mt eq_zero_iff_toNat.2 h0
        rw [if_pos h0, if_pos (Nat.pos_of_ne_zero above), toNat_sub_one above]
    rw [if_pos hd]
    simpa [envelopeClocked, hs, hd] using decay
  · have above : e.div.toNat ≠ 0 := mt eq_zero_iff_toNat.2 hd
    rw [if_neg hd]
    simpa [envelopeClocked, hs, above] using fun _ => toNat_sub_one above

@[simp] theorem Envelope.clock_loop (e : Envelope) : e.clock.loop = e.loop := by
  obtain ⟨-, loop, -⟩ := e.clock_clocked
  exact loop

theorem Envelope.toNat_out (e : Envelope) : e.out.toNat = envelopeOut e := apply_ite BitVec.toNat ..

theorem LengthCounter.clock_eq (lc : LengthCounter) (halt : Bool) :
    lc.clock halt = lengthClocked halt lc := by
  unfold LengthCounter.clock lengthClocked
  cases halt
  · simp only [eq_zero_iff_toNat, Nat.pos_iff_ne_zero, true_and, ite_not, Bool.false_eq_true, if_false]
  · rfl

/-- A length counter falls in a half frame (`on`) unless it is halted or 0. -/
theorem lengthClocked_len (on halt : Bool) (lc : LengthCounter) :
    (if on then lengthClocked halt lc else lc).len =
      if on = true ∧ halt = false ∧ lc.len ≠ 0 then lc.len - 1 else lc.len := by
  unfold lengthClocked
  simp only [Nat.pos_iff_ne_zero, Ne, ← eq_zero_iff_toNat]
  cases on
  · rfl
  · simp only [reduceIte, true_and]
    split <;> rfl

/-! ### Sweeps (R563) -/

/-- The model's target is the sum cut at 0. -/
theorem Pulse.sweepTarget_eq (p : Pulse) (first : Bool) :
    (p.sweepTarget first : Int) = max 0 (sweepSum first p) := by
  have change : ((p.timerPeriod.toNat >>> p.swShift.toNat : Nat) : Int) =
      (p.timerPeriod.toNat : Int) / 2 ^ p.swShift.toNat := by
    rw [Nat.shiftRight_eq_div_pow]
    push_cast
    rfl
  unfold Pulse.sweepTarget sweepSum
  dsimp only
  rw [← change]
  generalize p.timerPeriod.toNat >>> p.swShift.toNat = c
  split
  · split <;> omega
  · omega

theorem Pulse.sweepMute_iff (p : Pulse) (first : Bool) :
    p.sweepMute first = true ↔ sweepMutes first p := by
  have := p.sweepTarget_eq first
  unfold Pulse.sweepMute sweepMutes
  rw [Bool.or_eq_true, decide_eq_true_iff, decide_eq_true_iff]
  omega

/-- A target that does not mute fits the period. -/
theorem Pulse.toNat_sweepTarget {p : Pulse} {first : Bool} (h : ¬ sweepMutes first p) :
    ((BitVec.ofNat 11 (p.sweepTarget first)).toNat : Int) = max 0 (sweepSum first p) := by
  have target := p.sweepTarget_eq first
  unfold sweepMutes at h
  rw [BitVec.toNat_ofNat, Nat.mod_eq_of_lt (by omega), target]

/-- The divider of the sweep after a half frame. -/
def Pulse.nextSwDiv (p : Pulse) : BitVec 3 :=
  if p.swDiv = 0 ∨ p.swReload then p.swPeriod else p.swDiv - 1

theorem Pulse.sweepClock_eq (p : Pulse) (first : Bool) : p.sweepClock first =
    { p with timerPeriod := p.sweepPeriod first, swDiv := p.nextSwDiv, swReload := false } := by
  unfold Pulse.sweepClock Pulse.nextSwDiv
  dsimp only
  split
  · rfl
  · next h =>
    obtain ⟨-, idle⟩ := not_or.1 h
    rw [← Bool.eq_false_iff.2 idle]

theorem Pulse.sweepClock_clocked (p : Pulse) (first : Bool) :
    sweepClocked first p (p.sweepClock first) := by
  have moves : (p.swDiv = 0 ∧ p.swEn = true ∧ p.swShift ≠ 0 ∧ p.sweepMute first = false) ↔
      (p.swDiv.toNat = 0 ∧ p.swEn = true ∧ 0 < p.swShift.toNat ∧ ¬ sweepMutes first p) := by
    rw [← p.sweepMute_iff, Bool.not_eq_true, Ne, eq_zero_iff_toNat, eq_zero_iff_toNat,
      Nat.pos_iff_ne_zero]
  rw [p.sweepClock_eq]
  unfold sweepClocked Pulse.sweepPeriod Pulse.nextSwDiv
  refine ⟨fun h => ?_, fun h => if_neg (mt moves.1 h), rfl, fun h => ?_, fun h h' => ?_⟩
  · have ⟨_, _, _, heard⟩ := h
    simp only [if_pos (moves.2 h), Pulse.toNat_sweepTarget heard]
  · exact if_pos (h.imp_left eq_zero_iff_toNat.2)
  · have above : p.swDiv.toNat ≠ 0 := by omega
    rw [if_neg (not_or.2 ⟨mt eq_zero_iff_toNat.1 above, by simp [h']⟩), toNat_sub_one above]

/-! ### The linear counter (R568) -/

theorem Triangle.clockLinear_clocked (t : Triangle) : linearClocked t t.clockLinear := by
  refine ⟨?_, rfl⟩
  unfold Triangle.clockLinear
  dsimp only
  cases t.linReload
  · by_cases h : t.lin = 0
    · simp only [h]
      rfl
    · simp only [h, reduceIte, Bool.false_eq_true, toNat_sub_one (mt eq_zero_iff_toNat.2 h)]
  · rfl

/-! ### Timers (R560, R565, R568, R570) -/

/-- A pulse channel after a clock of the audio unit, `on` telling whether it is a half-rate tick. -/
def Pulse.timed (on : Bool) (p : Pulse) : Pulse := if on then p.clockTimer else p

theorem Pulse.timed_eq (on : Bool) (p : Pulse) : p.timed on =
    { p with
      timer := if on = false then p.timer else if p.timer = 0 then p.timerPeriod else p.timer - 1
      seqPos := if on = false then p.seqPos else if p.timer = 0 then p.seqPos + 1 else p.seqPos } := by
  unfold Pulse.timed Pulse.clockTimer
  cases on
  · rfl
  · by_cases h : p.timer = 0 <;> simp only [h, reduceIte, Bool.true_eq_false]

theorem Pulse.timed_timer (on : Bool) (p : Pulse) :
    if on = false then (p.timed on).timer = p.timer ∧ (p.timed on).seqPos = p.seqPos
    else if p.timer.toNat = 0 then
      (p.timed on).timer = p.timerPeriod ∧ (p.timed on).seqPos.toNat = (p.seqPos.toNat + 1) % 8
    else (p.timed on).timer.toNat = p.timer.toNat - 1 ∧ (p.timed on).seqPos = p.seqPos := by
  rw [p.timed_eq]
  cases on
  · exact ⟨rfl, rfl⟩
  rw [if_neg (by decide)]
  by_cases h : p.timer = 0
  · rw [if_pos (eq_zero_iff_toNat.1 h)]
    simp only [h, reduceIte, Bool.true_eq_false, true_and]
    exact BitVec.toNat_add p.seqPos 1
  · have above := mt eq_zero_iff_toNat.2 h
    simp only [h, above, reduceIte, Bool.true_eq_false, toNat_sub_one above, and_self]

theorem Triangle.clockTimer_eq (t : Triangle) : t.clockTimer =
    { t with
      timer := if t.timer = 0 then t.timerPeriod else t.timer - 1
      seqPos := if t.timer = 0 ∧ t.lc.len ≠ 0 ∧ t.lin ≠ 0 then t.seqPos + 1 else t.seqPos } := by
  unfold Triangle.clockTimer
  by_cases h : t.timer = 0 <;> simp only [h, reduceIte, true_and, false_and]

theorem Triangle.clockTimer_timer (t : Triangle) :
    if t.timer.toNat = 0 then
      t.clockTimer.timer = t.timerPeriod ∧ t.clockTimer.seqPos.toNat =
        if 0 < t.lc.len.toNat ∧ 0 < t.lin.toNat then (t.seqPos.toNat + 1) % 32 else t.seqPos.toNat
    else t.clockTimer.timer.toNat = t.timer.toNat - 1 ∧ t.clockTimer.seqPos = t.seqPos := by
  rw [t.clockTimer_eq]
  by_cases h : t.timer = 0
  · rw [if_pos (eq_zero_iff_toNat.1 h)]
    simp only [h, reduceIte, true_and, Nat.pos_iff_ne_zero, Ne, eq_zero_iff_toNat]
    rw [apply_ite BitVec.toNat, BitVec.toNat_add]
    rfl
  · have above := mt eq_zero_iff_toNat.2 h
    simp only [h, above, reduceIte, false_and, toNat_sub_one above, and_self]

/-- The bits of the noise register move down and the feedback bit comes in at the top (R570). -/
theorem Noise.getLsbD_nextLfsr (n : Noise) :
    (∀ k < 14, n.nextLfsr.getLsbD k = n.lfsr.getLsbD (k + 1)) ∧
    n.nextLfsr.getLsbD 14 = (n.lfsr.getLsbD 0 != n.lfsr.getLsbD (if n.mode then 6 else 1)) := by
  constructor
  · intro k hk
    simp [Noise.nextLfsr, Nat.add_comm 1 k, hk]
  · cases h : n.mode <;> simp [Noise.nextLfsr, h]

/-- A period of the noise channel fits its timer. -/
theorem toNat_noisePeriod (i : BitVec 4) :
    (BitVec.ofNat 12 (noisePeriod.getD i.toNat 0 - 1)).toNat = noisePeriods.getD i.toNat 0 - 1 := by
  decide +revert

theorem Noise.clockTimer_eq (n : Noise) : n.clockTimer =
    { n with
      timer :=
        if n.timer = 0 then BitVec.ofNat 12 (noisePeriod.getD n.periodIdx.toNat 0 - 1) else n.timer - 1
      lfsr := if n.timer = 0 then n.nextLfsr else n.lfsr } := by
  unfold Noise.clockTimer
  by_cases h : n.timer = 0 <;> simp only [h, reduceIte]

theorem Noise.clockTimer_timer (n : Noise) :
    if n.timer.toNat = 0 then
      n.clockTimer.timer.toNat = noisePeriods.getD n.periodIdx.toNat 0 - 1 ∧
      (∀ k < 14, n.clockTimer.lfsr.getLsbD k = n.lfsr.getLsbD (k + 1)) ∧
      n.clockTimer.lfsr.getLsbD 14 = (n.lfsr.getLsbD 0 != n.lfsr.getLsbD (if n.mode then 6 else 1))
    else n.clockTimer.timer.toNat = n.timer.toNat - 1 ∧ n.clockTimer.lfsr = n.lfsr := by
  rw [n.clockTimer_eq]
  by_cases h : n.timer = 0
  · rw [if_pos (eq_zero_iff_toNat.1 h)]
    simp only [h, reduceIte]
    exact ⟨toNat_noisePeriod _, n.getLsbD_nextLfsr⟩
  · have above := mt eq_zero_iff_toNat.2 h
    simp only [h, above, reduceIte, toNat_sub_one above, and_self]

end Sys2Proof.Machine
end

section
/-! PROOFS. The frame sequencer: the channels after a quarter and a half frame, the count at which each is
due, and `clock()` up to the delta reader. -/

namespace Sys2Proof.Machine

/-! ### Quarter and half frames (R582, R583) -/

/-- A pulse channel after a clock of the frame sequencer that is or is not a quarter and a half frame. -/
def Pulse.stepped (quarter half first : Bool) (p : Pulse) : Pulse :=
  { p with
    env := if quarter then p.env.clock else p.env
    lc := if half then lengthClocked p.env.loop p.lc else p.lc
    timerPeriod := if half then p.sweepPeriod first else p.timerPeriod
    swDiv := if half then p.nextSwDiv else p.swDiv
    swReload := if half then false else p.swReload }

/-- The triangle after such a clock. -/
def Triangle.stepped (quarter half : Bool) (t : Triangle) : Triangle :=
  { t with
    lin := if quarter then t.clockLinear.lin else t.lin
    linReload := if quarter then t.clockLinear.linReload else t.linReload
    lc := if half then lengthClocked t.linCtrl t.lc else t.lc }

/-- The noise channel after such a clock. -/
def Noise.stepped (quarter half : Bool) (n : Noise) : Noise :=
  { n with
    env := if quarter then n.env.clock else n.env
    lc := if half then lengthClocked n.env.loop n.lc else n.lc }

/-- The audio unit after such a clock of its channels. -/
def Apu.stepped (quarter half : Bool) (u : Apu) : Apu :=
  { u with
    pulse1 := u.pulse1.stepped quarter half true
    pulse2 := u.pulse2.stepped quarter half false
    triangle := u.triangle.stepped quarter half
    noise := u.noise.stepped quarter half }

/-- A half frame clocks the sweep. -/
theorem Pulse.stepped_sweepClocked (quarter first : Bool) (p : Pulse) :
    sweepClocked first p (p.stepped quarter true first) := by
  have clocked := p.sweepClock_clocked first
  rw [p.sweepClock_eq] at clocked
  exact clocked

/-- A quarter frame clocks the linear counter. -/
theorem Triangle.stepped_linearClocked (half : Bool) (t : Triangle) :
    linearClocked t (t.stepped true half) := t.clockLinear_clocked

theorem Apu.stepped_false (u : Apu) : u.stepped false false = u := rfl

theorem Apu.quarter_eq (u : Apu) : u.quarter = u.stepped true false := rfl

theorem Apu.quarter_half_eq (u : Apu) : u.quarter.half = u.stepped true true := by
  simp only [Apu.half, Apu.quarter, Pulse.sweepClock_eq, LengthCounter.clock_eq, Envelope.clock_loop]
  rfl

theorem Apu.quarter_ite {c : Prop} [Decidable c] {b : Bool} (h : c ↔ b = true) (u : Apu) :
    (if c then u.quarter else u) = u.stepped b false := by
  rw [Apu.quarter_eq]
  cases b <;> simp [h, Apu.stepped_false]

theorem Apu.quarter_half_ite {c : Prop} [Decidable c] {b : Bool} (h : c ↔ b = true) (u : Apu) :
    (if c then u.quarter.half else u) = u.stepped b b := by
  rw [Apu.quarter_half_eq]
  cases b <;> simp [h, Apu.stepped_false]

/-- A quarter frame of its own, or a quarter and a half frame. -/
theorem Apu.stepped_stepped (u : Apu) {early middle : Bool} (h : early = true → middle = false) :
    (u.stepped early false).stepped middle middle = u.stepped (middle || early) middle := by
  cases early
  · cases middle <;> rfl
  · rw [h rfl]
    rfl

/-! ### A frame step (R580, R581) -/

/-- The count after this clock of the sequencer is that of a half frame (R581). -/
def Apu.halfDue (u : Apu) : Bool := u.fc + 1 == 7456 || u.fc + 1 == u.period - 1

/-- The count after this clock of the sequencer is that of a quarter frame (R581). -/
def Apu.quarterDue (u : Apu) : Bool := u.halfDue || (u.fc + 1 == 3728 || u.fc + 1 == 11185)

theorem Apu.period_cases (u : Apu) :
    (u.fcMode = false ∧ u.period = 14915) ∨ (u.fcMode = true ∧ u.period = 18641) := by
  unfold Apu.period
  cases u.fcMode
  · exact .inl ⟨rfl, rfl⟩
  · exact .inr ⟨rfl, rfl⟩

/-- In 4-step mode the final step is count 14914. -/
theorem Apu.raisesIrq_eq (u : Apu) : (!u.fcMode && !u.irqInhibit && u.fc + 1 == 14914) =
    (u.fc + 1 == u.period - 1 && (!u.fcMode && !u.irqInhibit)) := by
  obtain ⟨mode, period⟩ | ⟨mode, period⟩ := u.period_cases
  · rw [mode, period]
    exact Bool.and_comm ..
  · simp [mode]

/-- A frame step: the channels are clocked as the count asks, and the final step of the 4-step mode
raises the frame interrupt. -/
theorem Apu.frameStep_eq (u : Apu) :
    u.frameStep = { u.stepped u.quarterDue u.halfDue with
      fc := if u.fc + 1 = u.period then 0 else u.fc + 1
      frameIrq := u.frameIrq || (!u.fcMode && !u.irqInhibit && u.fc + 1 == 14914) } := by
  rw [u.raisesIrq_eq]
  unfold Apu.frameStep
  extract_lets u1 u2 u3 w u4
  have early : u2 = u1.stepped (u.fc + 1 == 3728 || u.fc + 1 == 11185) false :=
    Apu.quarter_ite (by simp [u1]) u1
  have middle : u3 = u2.stepped (u.fc + 1 == 7456) (u.fc + 1 == 7456) :=
    Apu.quarter_half_ite (by simp [early, Apu.stepped, u1]) u2
  rw [early, Apu.stepped_stepped _ (by simp; omega)] at middle
  have last : u3.fc = config.apuFinalStepAt u3.period ↔ u.fc + 1 = u.period - 1 := by
    rw [middle]
    rfl
  have final : u4 = { u.stepped u.quarterDue u.halfDue with
      fc := u.fc + 1
      frameIrq := u.frameIrq || (u.fc + 1 == u.period - 1 && (!u.fcMode && !u.irqInhibit)) } := by
    by_cases hf : u.fc + 1 = u.period - 1
    · have due : (u.fc + 1 == u.period - 1) = true := beq_iff_eq.2 hf
      have unclocked : u3 = u1 := by
        obtain ⟨h7456, h3728, h11185⟩ : u.fc + 1 ≠ 7456 ∧ u.fc + 1 ≠ 3728 ∧ u.fc + 1 ≠ 11185 := by
          obtain ⟨-, period⟩ | ⟨-, period⟩ := u.period_cases <;> omega
        rw [middle, beq_false_of_ne h7456, beq_false_of_ne h3728, beq_false_of_ne h11185]
        rfl
      rw [show u4 = _ from if_pos (last.2 hf)]
      simp only [w, unclocked, Apu.quarter_half_eq, Apu.quarterDue, Apu.halfDue, due, Bool.or_true,
        Bool.true_or, Bool.true_and]
      rfl
    · rw [show u4 = _ from if_neg (mt last.1 hf), middle]
      simp only [Apu.quarterDue, Apu.halfDue, beq_false_of_ne hf, Bool.or_false, Bool.false_and]
      rfl
  rw [final]
  by_cases hp : u.fc + 1 = u.period
  · rw [if_pos hp]
    exact if_pos hp
  · rw [if_neg hp]
    exact if_neg hp

/-! ### `clock()` before the reader (R600) -/

theorem Apu.clockFront_eq (u : Apu) :
    let w := u.stepped (u.parity && u.quarterDue) (u.parity && u.halfDue)
    u.clockFront = { w with
      parity := !u.parity
      fc := if u.parity = false then u.fc else if u.fc + 1 = u.period then 0 else u.fc + 1
      frameIrq := u.frameIrq || (u.parity && !u.fcMode && !u.irqInhibit && u.fc + 1 == 14914)
      pulse1 := w.pulse1.timed u.parity
      pulse2 := w.pulse2.timed u.parity
      triangle := w.triangle.clockTimer
      noise := w.noise.clockTimer } := by
  unfold Apu.clockFront
  cases h : u.parity
  · simp [Apu.stepped_false, Pulse.timed]
  · simp only [Bool.not_true, Bool.not_false, Bool.true_or, reduceIte, Apu.frameStep_eq]
    rfl

/-- Settles O48: `clockFront_eq`, channel by channel. -/
theorem frameSequencer : Obligations.FrameSequencer := by
  intro u t period count half quarter envelope length pulse
  have front : t = _ := u.clockFront_eq
  have quarter_eq : (u.parity && u.quarterDue) = quarter := Bool.and_or_distrib_left ..
  have half_eq : (u.parity && u.halfDue) = half := rfl
  rw [quarter_eq, half_eq] at front
  have envelopes (e : Envelope) : envelope e (if quarter then e.clock else e) := by
    simp only [envelope]
    split
    · exact e.clock_clocked
    · rfl
  have pulses (first : Bool) (p : Pulse) :
      pulse first p ((p.stepped quarter half first).timed u.parity) := by
    have timer := (p.stepped quarter half first).timed_timer u.parity
    rw [Pulse.timed_eq] at timer ⊢
    refine ⟨envelopes p.env, rfl, rfl, fun h => ?_, fun h => ?_, timer⟩
    · rw [h]
      exact p.stepped_sweepClocked quarter first
    · rw [h]
      exact ⟨rfl, rfl, rfl⟩
  have linear (a : Triangle) : if quarter then linearClocked a (a.stepped quarter half)
      else (a.stepped quarter half).lin = a.lin ∧ (a.stepped quarter half).linReload = a.linReload := by
    cases quarter
    · exact ⟨rfl, rfl⟩
    · exact a.stepped_linearClocked half
  rw [front]
  refine ⟨rfl, rfl, rfl, rfl, rfl, rfl, rfl, pulses true u.pulse1, pulses false u.pulse2, ?_, ?_⟩
  · have timer := (u.triangle.stepped quarter half).clockTimer_timer
    rw [Triangle.clockTimer_eq] at timer ⊢
    exact ⟨rfl, linear u.triangle, rfl, rfl, rfl, timer⟩
  · have timer := (u.noise.stepped quarter half).clockTimer_timer
    rw [Noise.clockTimer_eq] at timer ⊢
    exact ⟨envelopes u.noise.env, rfl, rfl, rfl, timer⟩

end Sys2Proof.Machine
end

section
/-! PROOFS. The registers of the audio unit: status, enable and frame register, and those of the pulse
channels, the triangle and the noise channel. -/

namespace Sys2Proof.Machine

/-! ### Fields of a byte written -/

/-- A field as a number cut to its width. -/
theorem bits_eq_ofNat {n : Nat} (v : BitVec n) (lo k : Nat) :
    bits v lo k = BitVec.ofNat k (v.toNat / 2 ^ lo) :=
  BitVec.eq_of_toNat_eq (by rw [toNat_bits, BitVec.toNat_ofNat])

/-- The lowest field. -/
theorem bits_zero_eq_ofNat {n : Nat} (v : BitVec n) (k : Nat) :
    bits v 0 k = BitVec.ofNat k v.toNat := by
  rw [bits_eq_ofNat, Nat.pow_zero, Nat.div_one]

/-- The low byte of a timer period replaced. -/
theorem putBits_low (v : BitVec 11) (d : Byte) :
    putBits v 0 d = BitVec.ofNat 11 (v.toNat / 256 * 256 + d.toNat) := by
  have low := congrArg BitVec.toNat (bits_putBits_same (lo := 0) (by decide) v d)
  have high := congrArg BitVec.toNat
    (bits_putBits_beside (lo := 0) (lo' := 8) (l := 3) (by decide) v d)
  simp only [toNat_bits] at low high
  apply BitVec.eq_of_toNat_eq
  rw [BitVec.toNat_ofNat]
  omega

/-- The high bits of a timer period replaced. -/
theorem putBits_high (v : BitVec 11) (d : Byte) :
    putBits v 8 (bits d 0 3) = BitVec.ofNat 11 (d.toNat % 8 * 256 + v.toNat % 256) := by
  have high := congrArg BitVec.toNat (bits_putBits_same (lo := 8) (by decide) v (bits d 0 3))
  have low := congrArg BitVec.toNat
    (bits_putBits_beside (lo := 8) (lo' := 0) (l := 8) (by decide) v (bits d 0 3))
  simp only [toNat_bits] at low high
  apply BitVec.eq_of_toNat_eq
  rw [BitVec.toNat_ofNat]
  omega

theorem LengthCounter.load_eq (lc : LengthCounter) (d : Byte) : lc.load d = lengthLoaded d lc := by
  have table : lengthTable = lengthEntries.map (BitVec.ofNat 8) := rfl
  have index : (bits d 3 5).toNat = d.toNat / 8 := by
    rw [toNat_bits]
    omega
  unfold LengthCounter.load lengthLoaded
  rw [table, index, show (0 : Byte) = BitVec.ofNat 8 0 from rfl, List.getD_map]

/-! ### Bus access (R532, R555) -/

/-- A bus write of an audio register. -/
theorem wr_apuReg {n : Nat} (h : n < 0x14 ∨ n = 0x15 ∨ n = 0x17) (d : Byte) (s : State) :
    wr (BitVec.ofNat 16 (0x4000 + n)) d s = { s with apu := apuRegWrite n d s.apu } := by
  have address : (BitVec.ofNat 16 (0x4000 + n)).toNat = 0x4000 + n := by
    rw [BitVec.toNat_ofNat]
    omega
  have dest : writeDest (BitVec.ofNat 16 (0x4000 + n)) = .apuReg n := by
    rw [writeDest, address, if_neg (by omega), if_neg (by omega), if_neg (by omega),
      if_neg (by omega), if_pos (by omega), Nat.add_sub_cancel_left]
  simp only [wr, dest]

/-- A bus read of the audio status. -/
theorem read_apuStatus (s : State) : peek 0x4015 s = s.apu.status ∧
    afterRd 0x4015 s =
      { s with busLatch := s.apu.status, apu := { s.apu with frameIrq := false } } := by
  have dest : readDest 0x4015 = .apuStatus := by decide
  simp only [afterRd, peek, readEffect, dest, and_self]

/-! ### Status and enable (R548, R555) -/

theorem Apu.getLsbD_status (u : Apu) :
    let v := u.status
    v.getLsbD 0 = (u.pulse1.lc.len != 0) ∧ v.getLsbD 1 = (u.pulse2.lc.len != 0) ∧
    v.getLsbD 2 = (u.triangle.lc.len != 0) ∧ v.getLsbD 3 = (u.noise.lc.len != 0) ∧
    v.getLsbD 4 = (u.dmc.bytesLeft != 0) ∧ v.getLsbD 5 = false ∧ v.getLsbD 6 = u.frameIrq ∧
    v.getLsbD 7 = u.dmc.dmcIrq := by
  simp [Apu.status, bitAt]

theorem Dmc.enable_eq (m : Dmc) (on : Bool) : m.enable on =
    { m with
      dmcIrq := false
      curAddr := if on ∧ m.bytesLeft = 0 then m.sampleAddr else m.curAddr
      bytesLeft :=
        if on then (if m.bytesLeft = 0 then m.sampleLen else m.bytesLeft) else 0 } := by
  unfold Dmc.enable
  cases on
  · rfl
  · by_cases h : m.bytesLeft = 0 <;> simp only [h, reduceIte, and_self, and_false]

/-! ### Pulse channels (R533 to R536) -/

theorem Pulse.write_eq (p : Pulse) (d : Byte) :
    p.write0 d = pulseWritten 0 d p ∧ p.write1 d = pulseWritten 1 d p ∧
    p.write2 d = pulseWritten 2 d p ∧ p.write3 d = pulseWritten 3 d p := by
  refine ⟨?_, ?_, ?_, ?_⟩
  · simp only [Pulse.write0, pulseWritten, bits_eq_ofNat, Nat.reducePow, Nat.div_one]
  · simp only [Pulse.write1, pulseWritten, bits_eq_ofNat, Nat.reducePow, Nat.div_one]
  · simp only [Pulse.write2, pulseWritten, putBits_low]
  · simp only [Pulse.write3, pulseWritten, putBits_high, LengthCounter.load_eq]

theorem apuRegWrite_pulse {k : Nat} (hk : k < 4) (d : Byte) (u : Apu) :
    apuRegWrite k d u = { u with pulse1 := pulseWritten k d u.pulse1 } ∧
    apuRegWrite (4 + k) d u = { u with pulse2 := pulseWritten k d u.pulse2 } := by
  obtain ⟨first0, first1, first2, first3⟩ := u.pulse1.write_eq d
  obtain ⟨second0, second1, second2, second3⟩ := u.pulse2.write_eq d
  interval_cases k
  · rw [← first0, ← second0]
    exact ⟨rfl, rfl⟩
  · rw [← first1, ← second1]
    exact ⟨rfl, rfl⟩
  · rw [← first2, ← second2]
    exact ⟨rfl, rfl⟩
  · rw [← first3, ← second3]
    exact ⟨rfl, rfl⟩

/-- Settles O46: the status bits, and the registers one by one. -/
theorem audioStatusAndEnable : Obligations.AudioStatusAndEnable := by
  refine ⟨fun s => ?_, fun s d => ?_, fun s d => ?_⟩
  · obtain ⟨value, effect⟩ := read_apuStatus s
    obtain ⟨pulse1, pulse2, triangle, noise, dmc, unused, frameIrq, dmcIrq⟩ := s.apu.getLsbD_status
    intro u v
    rw [show v = _ from value]
    exact ⟨pulse1, pulse2, triangle, noise, dmc, unused, frameIrq, dmcIrq, effect⟩
  · have written := wr_apuReg (n := 0x15) (by decide) d s
    simp only [apuRegWrite, Apu.writeEnable, Dmc.enable_eq] at written
    exact written
  · have written (n : Nat) (h : n < 0x14) := wr_apuReg (.inl h) d s
    intro u tri noise
    refine ⟨fun k hk => ?_, ?_, ?_, ?_, ?_, ?_, ?_, ?_, ?_⟩
    · obtain ⟨first, second⟩ := apuRegWrite_pulse hk d s.apu
      constructor
      · rw [← first]
        exact written k (by omega)
      · rw [← second, show 0x4004 + k = 0x4000 + (4 + k) by omega]
        exact written (4 + k) (by omega)
    · rw [← bits_zero_eq_ofNat]
      exact written 0x8 (by decide)
    · exact written 0x9 (by decide)
    · rw [← putBits_low]
      exact written 0xA (by decide)
    · rw [← putBits_high, ← LengthCounter.load_eq]
      exact written 0xB (by decide)
    · rw [← bits_zero_eq_ofNat]
      exact written 0xC (by decide)
    · exact written 0xD (by decide)
    · rw [← bits_zero_eq_ofNat]
      exact written 0xE (by decide)
    · rw [← LengthCounter.load_eq]
      exact written 0xF (by decide)

/-! ### The frame register (R556) -/

/-- The mode of bit 7 clocks the channels at once. -/
theorem Apu.writeFrame_eq (u : Apu) (d : Byte) : u.writeFrame d =
    { u.stepped (d.getLsbD 7) (d.getLsbD 7) with
      fcMode := d.getLsbD 7, irqInhibit := d.getLsbD 6, fc := 0
      frameIrq := u.frameIrq && !d.getLsbD 6 } := by
  unfold Apu.writeFrame
  cases d.getLsbD 7
  · rfl
  · simp only [reduceIte, Apu.quarter_half_eq]
    rfl

theorem wr_frameRegister (d : Byte) (s : State) :
    wr 0x4017 d s = { s with apu := s.apu.writeFrame d } := wr_apuReg (n := 0x17) (by decide) d s

/-- Settles O47: `writeFrame_eq`, channel by channel. -/
theorem frameRegisterWrite : Obligations.FrameRegisterWrite := by
  intro s d u t len
  have written : t = _ := (congrArg State.apu (wr_frameRegister d s)).trans (s.apu.writeFrame_eq d)
  have whole : wr 0x4017 d s = { s with apu := t } := by
    rw [written, wr_frameRegister, Apu.writeFrame_eq]
  generalize t = v at written whole ⊢
  subst written
  refine ⟨rfl, rfl, rfl, rfl, rfl, rfl, lengthClocked_len .., lengthClocked_len ..,
    lengthClocked_len .., lengthClocked_len .., fun h => ?_, fun h => ?_, whole⟩
  · rw [h]
    exact ⟨u.pulse1.env.clock_clocked, u.pulse2.env.clock_clocked, u.noise.env.clock_clocked,
      u.triangle.stepped_linearClocked true, u.pulse1.stepped_sweepClocked true true,
      u.pulse2.stepped_sweepClocked true false, rfl, rfl, rfl, rfl, rfl, rfl, rfl, rfl⟩
  · rw [h]
    rfl

end Sys2Proof.Machine
end

section
/-! PROOFS. The delta channel: its registers, its reader and its output unit; and the sample step. -/

namespace Sys2Proof.Machine

/-! ### Registers (R546, R547) -/

theorem Dmc.write12_eq (m : Dmc) (d : Byte) :
    m.write12 d = { m with sampleAddr := BitVec.ofNat 16 (0xC000 + 64 * d.toNat) } := by
  have address : 0xC000 + (zext16 d <<< 6) = BitVec.ofNat 16 (0xC000 + 64 * d.toNat) := by
    apply BitVec.eq_of_toNat_eq
    simp [zext16, Nat.shiftLeft_eq]
    omega
  rw [Dmc.write12, address]

theorem Dmc.write13_eq (m : Dmc) (d : Byte) :
    m.write13 d = { m with sampleLen := BitVec.ofNat 12 (16 * d.toNat + 1) } := by
  have length : (d.setWidth 12 <<< 4) + 1 = BitVec.ofNat 12 (16 * d.toNat + 1) := by
    apply BitVec.eq_of_toNat_eq
    simp [Nat.shiftLeft_eq]
    omega
  rw [Dmc.write13, length]

/-! ### The reader (R572) -/

theorem Dmc.wantsByte_iff (d : Dmc) :
    d.wantsByte = true ↔ d.bufFull = false ∧ d.bytesLeft ≠ 0 := by
  rw [Dmc.wantsByte, Bool.and_eq_true, Bool.not_eq_true', bne_iff_ne]

/-- After a byte the address and the count step, or a looping sample restarts. -/
theorem Dmc.fetched_eq (d : Dmc) (b : Byte) :
    let cur : Word := if d.curAddr = 0xFFFF then 0x8000 else d.curAddr + 1
    let last : Bool := d.bytesLeft == 1
    d.fetched b = { d with
      buf := b, bufFull := true
      curAddr := if last && d.loop then d.sampleAddr else cur
      bytesLeft := if last && d.loop then d.sampleLen else d.bytesLeft - 1
      dmcIrq := d.dmcIrq || (last && !d.loop && d.irqEn) } := by
  have last : d.bytesLeft - 1 = 0 ↔ (d.bytesLeft == 1) = true := by rw [sub_eq_zero, beq_iff_eq]
  simp only [Dmc.fetched, last]
  cases d.bytesLeft == 1
  · simp only [Bool.false_eq_true, reduceIte, Bool.false_and, Bool.or_false]
  · cases d.loop <;> simp

/-- The stall owed has no part in a read. -/
theorem peek_withStall (a : Word) (n : Nat) (s : State) : peek a { s with stall := n } = peek a s := rfl

theorem ppuRegReadEffect_withStall (k : BitVec 3) (n : Nat) (s : State) :
    ppuRegReadEffect k { s with stall := n } = { ppuRegReadEffect k s with stall := n } := by
  unfold ppuRegReadEffect
  dsimp only
  split <;> rfl

theorem afterRd_withStall (a : Word) (n : Nat) (s : State) :
    afterRd a { s with stall := n } = { afterRd a s with stall := n } := by
  unfold afterRd readEffect
  rw [peek_withStall]
  cases readDest a
  case ppuReg k => simp only [ppuRegReadEffect_withStall]
  all_goals rfl

theorem dmcReader_of_wantsByte {s : State} (h : s.apu.dmc.wantsByte = true) :
    let t := afterRd s.apu.dmc.curAddr s
    dmcReader s = { t with
      stall := s.stall + 4
      apu := { t.apu with dmc := s.apu.dmc.fetched (peek s.apu.dmc.curAddr s) } } := by
  simp only [dmcReader, h, reduceIte, afterRd_withStall, config_dmcStallCycles, afterRd_apu_dmc]

theorem dmcReader_of_not {s : State} (h : s.apu.dmc.wantsByte = false) : dmcReader s = s := by
  rw [dmcReader, h]
  rfl

theorem dmcReader_host (s : State) : (dmcReader s).host = s.host := by
  obtain ⟨_, _, _, _, _, _, h⟩ := dmcReader_cases s
  rw [h]

theorem dmcReader_sampleAcc (s : State) : (dmcReader s).apu.sampleAcc = s.apu.sampleAcc := by
  cases h : s.apu.dmc.wantsByte
  · rw [dmcReader_of_not h]
  · rw [dmcReader_of_wantsByte h, afterRd_apu_sampleAcc]

/-! ### The output unit (R573) -/

/-- A rate of the delta channel fits its divider. -/
theorem toNat_dmcRate (i : BitVec 4) :
    (BitVec.ofNat 9 (dmcRate.getD i.toNat 0 - 1)).toNat = deltaRates.getD i.toNat 0 - 1 := by
  decide +revert

theorem Dmc.toNat_nextLevel (d : Dmc) : d.nextLevel.toNat =
    if d.silence then d.level.toNat
    else if d.shift.getLsbD 0 then
      (if d.level.toNat + 2 ≤ 127 then d.level.toNat + 2 else d.level.toNat)
    else if 2 ≤ d.level.toNat then d.level.toNat - 2 else d.level.toNat := by
  have up (h : d.level.toNat ≤ 125) : (d.level + 2).toNat = d.level.toNat + 2 := by bv_omega
  have down (h : 2 ≤ d.level.toNat) : (d.level - 2).toNat = d.level.toNat - 2 := by bv_omega
  have room : d.level.toNat ≤ 125 ↔ d.level.toNat + 2 ≤ 127 := by omega
  unfold Dmc.nextLevel
  simp only [← room]
  split
  · rfl
  · split
    · split
      · exact up ‹_›
      · rfl
    · split
      · exact down ‹_›
      · rfl

theorem ushiftRight_one_eq_ofNat (v : Byte) : v >>> 1 = BitVec.ofNat 8 (v.toNat / 2) := by
  apply BitVec.eq_of_toNat_eq
  rw [BitVec.toNat_ushiftRight, BitVec.toNat_ofNat, Nat.shiftRight_eq_div_pow]
  omega

theorem Dmc.outputClock_keeps (d : Dmc) :
    d.outputClock.timer = d.timer ∧ d.outputClock.level = d.nextLevel := by
  unfold Dmc.outputClock
  dsimp only
  (repeat' split) <;> exact ⟨rfl, rfl⟩

theorem Dmc.outputClock_of_more {d : Dmc} (h : 1 < d.bitsLeft) : d.outputClock = { d with
    level := d.nextLevel, bitsLeft := d.bitsLeft - 1, shift := BitVec.ofNat 8 (d.shift.toNat / 2) } := by
  rw [← ushiftRight_one_eq_ofNat]
  exact if_neg (by simp only; omega)

/-- At the last bit the unit takes the buffered byte or falls silent. -/
theorem Dmc.outputClock_of_last {d : Dmc} (h : d.bitsLeft = 1) : d.outputClock =
    if d.bufFull then
      { d with level := d.nextLevel, bitsLeft := 8, silence := false, shift := d.buf, bufFull := false }
    else { d with
      level := d.nextLevel, bitsLeft := 8, silence := true
      shift := BitVec.ofNat 8 (d.shift.toNat / 2) } := by
  rw [← ushiftRight_one_eq_ofNat]
  exact if_pos (by simp only [h])

/-! ### The sample step (R609) -/

/-- The sample step changes the accumulator and the samples alone. -/
theorem sampleStep_frame (v : State) : sampleStep v = { v with
    apu := { v.apu with sampleAcc := (sampleStep v).apu.sampleAcc }
    host := { v.host with samples := (sampleStep v).host.samples } } := by
  rw [sampleStep_eq]

theorem levels_withSampleAcc (u : Apu) (acc : Nat) : { u with sampleAcc := acc }.levels = u.levels := rfl

theorem sampleStep_levels (v : State) : (sampleStep v).apu.levels = v.apu.levels := by
  rw [sampleStep_eq]
  exact levels_withSampleAcc v.apu v.apu.nextSampleAcc

/-- The accumulator after the step, in the spec's quantities. -/
theorem sampleStep_sampleAccQ (v : State) : (sampleStep v).apu.sampleAccQ =
    if cyclesPerSample ≤ v.apu.sampleAccQ + 1 then v.apu.sampleAccQ + 1 - cyclesPerSample
    else v.apu.sampleAccQ + 1 := by
  have next := nextSampleAcc_eq v.apu
  rw [Apu.sampleAccQ, sampleStep_eq]
  by_cases h : cyclesPerSample ≤ v.apu.sampleAccQ + 1
  · rw [next, if_pos h, if_pos ((sampleDue_iff _).2 h)]
  · rw [next, if_neg h, if_neg (mt (sampleDue_iff _).1 h)]

/-- The sink gets the levels that stand after the step. -/
theorem sampleStep_samples (v : State) : (sampleStep v).host.samples =
    if cyclesPerSample ≤ v.apu.sampleAccQ + 1 then (sampleStep v).apu.levels :: v.host.samples
    else v.host.samples := by
  have handed : (sampleStep v).host.samples =
      if v.apu.sampleDue then v.apu.levels :: v.host.samples else v.host.samples := by
    rw [sampleStep_eq]
  rw [sampleStep_levels, handed]
  by_cases h : cyclesPerSample ≤ v.apu.sampleAccQ + 1
  · rw [if_pos h, if_pos ((sampleDue_iff _).2 h)]
  · rw [if_neg h, if_neg (mt (sampleDue_iff _).1 h)]

/-- Settles O49: the registers, the reader, the output unit, and the sample step. -/
theorem deltaReader : Obligations.DeltaReader := by
  refine ⟨fun s d => ?_, fun s => ?_, fun s => ?_, fun s => ?_⟩
  · have written (n : Nat) (h : n < 0x14) := wr_apuReg (.inl h) d s
    intro m set
    simp only [set, ← bits_zero_eq_ofNat, ← Dmc.write12_eq, ← Dmc.write13_eq]
    exact ⟨written 0x10 (by decide), written 0x11 (by decide), written 0x12 (by decide),
      written 0x13 (by decide)⟩
  · intro d b cur last t
    refine ⟨fun h => dmcReader_of_not ?_, fun h h' => ?_⟩
    · rw [← Bool.not_eq_true, Dmc.wantsByte_iff]
      rintro ⟨empty, left⟩
      obtain full | none := h
      · exact absurd (full.symm.trans empty) (by decide)
      · exact left none
    · rw [dmcReader_of_wantsByte (d.wantsByte_iff.2 ⟨h, h'⟩), Dmc.fetched_eq]
  · intro d t
    rw [show t = d.clockTimer from rfl]
    refine ⟨fun h => if_neg (mt eq_zero_iff_toNat.1 (by omega)), fun h => ?_⟩
    let e : Dmc := { d with timer := BitVec.ofNat 9 (dmcRate.getD d.rateIdx.toNat 0 - 1) }
    have clocked : d.clockTimer = e.outputClock := if_pos (eq_zero_iff_toNat.2 h)
    obtain ⟨timer, level⟩ := e.outputClock_keeps
    rw [clocked, timer, level]
    exact ⟨toNat_dmcRate _, e.toNat_nextLevel, fun more => Dmc.outputClock_of_more more,
      fun last full => (Dmc.outputClock_of_last (d := e) last).trans (if_pos full),
      fun last empty =>
        (Dmc.outputClock_of_last (d := e) last).trans (if_neg (Bool.eq_false_iff.1 empty))⟩
  · intro r t acc period due
    let v : State := { r with apu := { r.apu with dmc := r.apu.dmc.clockTimer } }
    have stepped : t = sampleStep v := rfl
    have acc_eq : v.apu.sampleAccQ = acc s := by
      have same : v.apu.sampleAcc = s.apu.sampleAcc :=
        (dmcReader_sampleAcc _).trans (clockFront_sampleAcc s.apu)
      rw [Apu.sampleAccQ, same]
    have host : v.host = s.host := dmcReader_host _
    have frame := sampleStep_frame v
    have next := sampleStep_sampleAccQ v
    have handed := sampleStep_samples v
    rw [← stepped] at frame
    rw [← stepped, acc_eq] at next
    rw [← stepped, acc_eq, host] at handed
    refine ⟨?_, next, handed⟩
    rw [show t.apu.dmc = v.apu.dmc by rw [frame]]
    exact frame

end Sys2Proof.Machine
end

section
/-! PROOFS. The outputs of the channels, and the range of the mixer. -/

namespace Sys2Proof.Machine

/-! ### The channels' outputs (R566, R568, R570) -/

/-- The model's waveforms are the spec's. -/
theorem dutyTable_eq_false_iff (duty : BitVec 2) (pos : BitVec 3) :
    (dutyTable.getD duty.toNat []).getD pos.toNat false = false ↔
      (dutySteps.getD duty.toNat []).getD pos.toNat 0 = 0 := by
  decide +revert

theorem Pulse.out_level (p : Pulse) (first : Bool) : pulseLevel first p (p.out first).toNat := by
  have silent : p.lc.len = 0 ∨ (dutyTable.getD p.duty.toNat []).getD p.seqPos.toNat false = false ∨
      p.sweepMute first = true ↔ p.lc.len.toNat = 0 ∨
      (dutySteps.getD p.duty.toNat []).getD p.seqPos.toNat 0 = 0 ∨ sweepMutes first p := by
    rw [eq_zero_iff_toNat, dutyTable_eq_false_iff, p.sweepMute_iff]
  unfold pulseLevel Pulse.out
  refine ⟨fun h => ?_, fun h => ?_⟩
  · rw [if_pos (silent.2 h)]
    rfl
  · rw [if_neg (mt silent.1 h), Envelope.toNat_out]

theorem Triangle.toNat_out (t : Triangle) : t.out.toNat =
    if t.seqPos.toNat < 16 then 15 - t.seqPos.toNat else t.seqPos.toNat - 16 := by
  have steps : ∀ k : BitVec 5, (if k.getLsbD 4 then bits k 0 4 else ~~~(bits k 0 4)).toNat =
      if k.toNat < 16 then 15 - k.toNat else k.toNat - 16 := by decide
  exact steps t.seqPos

theorem Noise.toNat_out (n : Noise) : n.out.toNat =
    if n.lfsr.getLsbD 0 = true ∨ n.lc.len.toNat = 0 then 0 else envelopeOut n.env := by
  unfold Noise.out
  rw [apply_ite BitVec.toNat, Envelope.toNat_out]
  simp only [eq_zero_iff_toNat]
  rfl

/-! ### The mixer (R608) -/

/-- The form of the two tables of the mixer. -/
def mixerCurve (a c : Rat) (i : Nat) : Rat := if i = 0 then 0 else a / (c / i + 100)

theorem pulseTable_eq : pulseTable = mixerCurve (9552 / 100) 8128 := rfl

theorem tndTable_eq : tndTable = mixerCurve (16367 / 100) 24329 := rfl

section
variable {a c : Rat} (ha : 0 < a) (hc : 0 < c)
include ha hc

theorem mixerCurve_nonneg (i : Nat) : 0 ≤ mixerCurve a c i := by
  unfold mixerCurve
  split
  · exact le_rfl
  · positivity

/-- A louder sum is not mixed lower. -/
theorem mixerCurve_mono : Monotone (mixerCurve a c) := by
  intro i j hij
  rcases Nat.eq_zero_or_pos i with rfl | hi
  · exact mixerCurve_nonneg ha hc j
  · have hj : 0 < j := hi.trans_le hij
    unfold mixerCurve
    rw [if_neg hi.ne', if_neg hj.ne']
    gcongr

end

/-- The two pulse channels add up to 30 at most. -/
theorem pulseTable_range {i : Nat} (h : i ≤ 30) : 0 ≤ pulseTable i ∧ pulseTable i ≤ 0.25752 := by
  have loudest : mixerCurve (9552 / 100) 8128 30 ≤ 0.25752 := by norm_num [mixerCurve]
  rw [pulseTable_eq]
  exact ⟨mixerCurve_nonneg (by norm_num) (by norm_num) i,
    (mixerCurve_mono (by norm_num) (by norm_num) h).trans loudest⟩

/-- The other channels add up to 202 at most. -/
theorem tndTable_range {i : Nat} (h : i ≤ 202) : 0 ≤ tndTable i ∧ tndTable i ≤ 0.74248 := by
  have loudest : mixerCurve (16367 / 100) 24329 202 ≤ 0.74248 := by norm_num [mixerCurve]
  rw [tndTable_eq]
  exact ⟨mixerCurve_nonneg (by norm_num) (by norm_num) i,
    (mixerCurve_mono (by norm_num) (by norm_num) h).trans loudest⟩

theorem ChannelLevels.sample_eq (l : ChannelLevels) : l.sample =
    pulseTable (l.pulse1.toNat + l.pulse2.toNat) +
      tndTable (3 * l.triangle.toNat + 2 * l.noise.toNat + l.dmc.toNat) := rfl

theorem ChannelLevels.sample_range (l : ChannelLevels) : 0 ≤ l.sample ∧ l.sample ≤ 1 := by
  obtain ⟨pulseLow, pulseHigh⟩ :=
    pulseTable_range (i := l.pulse1.toNat + l.pulse2.toNat) (by omega)
  obtain ⟨tndLow, tndHigh⟩ :=
    tndTable_range (i := 3 * l.triangle.toNat + 2 * l.noise.toNat + l.dmc.toNat) (by omega)
  rw [l.sample_eq]
  constructor <;> linarith

/-- Settles O50: the outputs channel by channel, and the mixer at its loudest. -/
theorem mixerRange : Obligations.MixerRange := by
  refine ⟨fun u => ⟨u.pulse1.out_level true, u.pulse2.out_level false, u.triangle.toNat_out,
    u.noise.toNat_out, rfl⟩, fun l => l.sample_range, fun l h => ?_⟩
  rw [h]
  exact add_zero 0

end Sys2Proof.Machine
end

section
/-! PROOFS. The mapper variants: the serial writes of variant 1, and the windows of all five. -/

namespace Sys2Proof.Machine

/-- The lowest field over the integers. -/
theorem toNat_bits_zero {n : Nat} (v : BitVec n) (k : Nat) :
    (bits v 0 k).toNat = v.toNat % 2 ^ k := by
  rw [toNat_bits, Nat.pow_zero, Nat.div_one]

/-! ### The serial writes of variant 1 (R651, R653, R654) -/

/-- The shift register after bit 0 of `v` went to position `k`. -/
def serialShift (sr : BitVec 5) (k : Nat) (v : Byte) : BitVec 5 :=
  sr ||| ((bits v 0 1).setWidth 5 <<< k)

/-- Five bits shifted in, the first in bit 0. -/
theorem serialShift_five (v1 v2 v3 v4 v5 : Byte) :
    serialShift (serialShift (serialShift (serialShift (serialShift 0 0 v1) 1 v2) 2 v3) 3 v4) 4 v5 =
      serialValue v1 v2 v3 v4 v5 := by
  have bit (v : Byte) : bits v 0 1 = BitVec.ofBool (v.getLsbD 0) :=
    BitVec.eq_of_getLsbD_eq fun i hi => by simp [bits, Nat.lt_one_iff.1 hi]
  simp only [serialShift, serialValue, bit]
  generalize v1.getLsbD 0 = b1, v2.getLsbD 0 = b2, v3.getLsbD 0 = b3, v4.getLsbD 0 = b4,
    v5.getLsbD 0 = b5
  decide +revert

/-- Bit 7 clears the shift register; MMC1_RESET_SETS_PRG_MODE is at its default (D47). -/
theorem writePrgRom_clear {v : Byte} (h : v.getLsbD 7 = true) (r : Mmc1) (a : Word) :
    (Mapper.shiftRegister r).writePrgRom a v = .shiftRegister { r with sr := 0, srCount := 0 } := by
  rw [Mapper.writePrgRom, Mmc1.write, if_pos h]
  rfl

section
variable {v : Byte} (h : v.getLsbD 7 = false) (r : Mmc1) (sr : BitVec 5) (a : Word)
include h

/-- One of the first four serial writes. -/
theorem writePrgRom_shift {k : Nat} (hk : k ≠ 4) :
    (Mapper.shiftRegister { r with sr := sr, srCount := k }).writePrgRom a v =
      .shiftRegister { r with sr := serialShift sr k v, srCount := k + 1 } := by
  rw [Mapper.writePrgRom, Mmc1.write, h]
  exact congrArg _ (if_neg hk)

/-- The fifth serial write. -/
theorem writePrgRom_load :
    (Mapper.shiftRegister { r with sr := sr, srCount := 4 }).writePrgRom a v =
      .shiftRegister (r.load a (serialShift sr 4 v)) := by
  rw [Mapper.writePrgRom, Mmc1.write, h]
  rfl

end

/-- Settles O51: the clearing write and the serial writes one by one, then the register that the
fifth address selects. -/
theorem serialRegisterWrites : Obligations.SerialRegisterWrites := by
  intro r a0 a1 a2 a3 a4 a5 v0 v1 v2 v3 v4 v5 h0 h1 h2 h3 h4 h5 clear value
  have cleared : (Mapper.shiftRegister r).writePrgRom a0 v0 = .shiftRegister clear :=
    writePrgRom_clear h0 r a0
  have shifted (rest : List (Word × Byte)) :
      serialWrites ((a0, v0) :: (a1, v1) :: (a2, v2) :: (a3, v3) :: (a4, v4) :: rest)
        (.shiftRegister r) = serialWrites rest (.shiftRegister { r with
          sr := serialShift (serialShift (serialShift (serialShift 0 0 v1) 1 v2) 2 v3) 3 v4
          srCount := 4 }) := by
    simp only [serialWrites]
    rw [cleared, writePrgRom_shift h1 r 0 a1 (by decide), writePrgRom_shift h2 r _ a2 (by decide),
      writePrgRom_shift h3 r _ a3 (by decide), writePrgRom_shift h4 r _ a4 (by decide)]
  have loaded : serialWrites [(a0, v0), (a1, v1), (a2, v2), (a3, v3), (a4, v4), (a5, v5)]
      (.shiftRegister r) = .shiftRegister (r.load a5 value) := by
    rw [shifted, serialWrites, serialWrites, writePrgRom_load h5, serialShift_five]
  have target : (bits a5 13 2).toNat = a5.toNat / 8192 % 4 := toNat_bits a5 13 2
  have mode : (bits value 0 2).toNat = value.toNat % 4 := toNat_bits_zero value 2
  rw [Mmc1.load, target, mirrorOf, mode] at loaded
  exact ⟨cleared, ⟨_, _, shifted []⟩, loaded⟩

/-! ### The program ROM window (R641, R652, R662, R667, R671, R672) -/

/-- The bank that a write to variant 7 selects (R671). -/
theorem and_seven (v : Byte) : v &&& 0x07 = BitVec.ofNat 8 (v.toNat % 8) := by
  rw [← Nat.and_two_pow_sub_one_eq_mod v.toNat 3, BitVec.ofNat_and, BitVec.ofNat_toNat,
    BitVec.setWidth_eq]
  rfl

theorem toNat_offset16 (a : Word) : (bits a 0 14).toNat = a.toNat % 0x4000 := toNat_bits_zero a 14

section
variable (c : Cartridge) {a : Word} (ha : 0x8000 ≤ a.toNat)
include ha

/-- Bit 14 of the address tells the two 16K windows apart. -/
theorem getLsbD_window : a.getLsbD 14 = !decide (a.toNat ≤ 0xBFFF) := by
  rw [BitVec.getLsbD, Nat.testBit_eq_decide_div_mod_eq, ← decide_not, decide_eq_decide]
  omega

theorem prgOffset_fixed : prgOffset c .fixed a = (a.toNat - 0x8000) % c.prgSize := by
  have offset : (bits a 0 15).toNat = a.toNat - 0x8000 := by
    rw [toNat_bits_zero]
    omega
  rw [prgOffset, offset]

theorem prgOffset_swap16 (b : Byte) : prgOffset c (.swap16 b) a =
    if a.toNat ≤ 0xBFFF then (b.toNat * 0x4000 + a.toNat % 0x4000) % c.prgSize
    else (c.prgBanks - 1) * 0x4000 + a.toNat % 0x4000 := by
  rw [prgOffset, toNat_offset16, getLsbD_window ha]
  by_cases low : a.toNat ≤ 0xBFFF <;> simp only [low] <;> rfl

/-- The bank that variant 1 shows, by the PRG mode in bits 3:2 of `control` (R652). -/
theorem prgBankAt_eq (r : Mmc1) (banks : Nat) : r.prgBankAt banks a =
    let b := r.prg.toNat % 16
    let low : Bool := a.toNat ≤ 0xBFFF
    match r.control.toNat / 4 % 4 with
    | 2 => if low then 0 else b
    | 3 => if low then b else banks - 1
    | _ => if low then b / 2 * 2 else b / 2 * 2 + 1 := by
  have mode : (bits r.control 2 2).toNat = r.control.toNat / 4 % 4 := toNat_bits r.control 2 2
  have bank : (bits r.prg 0 4).toNat = r.prg.toNat % 16 := toNat_bits_zero r.prg 4
  rw [Mmc1.prgBankAt, mode, bank, getLsbD_window ha]
  cases decide (a.toNat ≤ 0xBFFF) <;> rfl

end

/-! ### The pattern tables (R643, R656, R663, R668, R674) -/

/-- Bit 4 of `control` is the CHR mode (R656). -/
theorem chrMode_eq (control : BitVec 5) : (!control.getLsbD 4) = decide (control.toNat < 16) := by
  decide +revert

theorem toNat_offset8 {a : VAddr} (ha : a.toNat ≤ 0x1FFF) : (bits a 0 13).toNat = a.toNat := by
  rw [toNat_bits_zero]
  omega

/-- Variant 1 shows one 8K bank or two 4K banks (R656). -/
theorem chrOffset_shiftRegister (c : Cartridge) (r : Mmc1) {a : VAddr} (ha : a.toNat ≤ 0x1FFF) :
    chrOffset c (.shiftRegister r) a =
      (if r.control.toNat < 16 then r.chr0.toNat / 2 * 0x2000 + a.toNat
        else if a.toNat < 0x1000 then r.chr0.toNat * 0x1000 + a.toNat
        else r.chr1.toNat * 0x1000 + (a.toNat - 0x1000)) % c.chrSize := by
  rw [chrOffset, toNat_offset8 ha, chrMode_eq]
  simp only [decide_eq_true_eq]
  refine congrArg (· % c.chrSize) ?_
  split
  · omega
  · split
    · rfl
    · omega

/-- In graphics RAM a write is a store, in ROM nothing (R637). -/
theorem writeChrRom_eq (c : Cartridge) (m : Mapper) (a : VAddr) (v : Byte) :
    writeChrRom c m a v =
      if c.chrBanks = 0 then { c with chr := c.chr.set (chrOffset c m a) v } else c := by
  simp only [writeChrRom, Cartridge.chrIsRam, beq_iff_eq]

/-- Settles O52: variant by variant, what the offsets of `prgOffset` and `chrOffset` are over the
integers. -/
theorem mapperWindows : Obligations.MapperWindows := by
  refine ⟨fun s a v ha => ?_, fun s a v ha => ?_⟩
  · intro size rom o
    have shown {m : Mapper} {k : Nat} (h : s.mapper = m) (hk : prgOffset s.cart m a = k) :
        peek a s = rom k := by
      rw [peek_prgRom ha, h, readPrgRom, hk]
    have written {m : Mapper} (h : s.mapper = m) :
        wr a v s = { s with mapper := m.writePrgRom a v } := by
      rw [wr_prgRom ha, h]
    refine ⟨fun h => ⟨shown h (prgOffset_fixed s.cart ha), ?_⟩,
      fun b h => ⟨shown h (prgOffset_fixed s.cart ha), written h⟩,
      fun b h => ⟨?_, written h⟩, fun b one mir h => ⟨shown h ?_, ?_⟩,
      fun r h => ⟨shown h ?_, written h⟩⟩
    · rw [written h, Mapper.writePrgRom, ← h]
    · exact (shown h (prgOffset_swap16 s.cart ha b)).trans (apply_ite rom ..)
    · have offset : (bits a 0 15).toNat = a.toNat % 0x8000 := toNat_bits_zero a 15
      rw [prgOffset, offset]
      rfl
    · rw [written h, Mapper.writePrgRom, and_seven]
      rfl
    · rw [prgOffset, toNat_offset16, prgBankAt_eq ha]
      rfl
  · intro size offset
    have place : chrOffset s.cart s.mapper a = offset := by
      simp only [offset]
      cases s.mapper with
      | shiftRegister r => exact chrOffset_shiftRegister s.cart r ha
      | _ =>
        rw [chrOffset, toNat_offset8 ha]
        rfl
    rw [ppuRd, ppuWr, if_pos ha, if_pos ha, readChrRom, writeChrRom_eq, place]
    refine ⟨rfl, ?_⟩
    split <;> rfl

end Sys2Proof.Machine
end

section
/-! PROOFS. The copy of a page to object memory, and the snapshot. -/

namespace Sys2Proof.Machine

/-! ### Bytes put into object memory one after the other (R462) -/

/-- Of the video unit only object memory and its address change. -/
theorem foldl_oamPut_eq (bs : List Byte) (p : Ppu) :
    bs.foldl Ppu.oamPut p = { p with
      oam := (bs.foldl Ppu.oamPut p).oam, oamAddr := p.oamAddr + BitVec.ofNat 8 bs.length } := by
  induction bs generalizing p with
  | nil => simp
  | cons b bs ih =>
    have addr : p.oamAddr + 1 + BitVec.ofNat 8 bs.length =
        p.oamAddr + BitVec.ofNat 8 (bs.length + 1) := by
      rw [BitVec.ofNat_add, BitVec.add_assoc, BitVec.add_comm 1]
      rfl
    rw [List.foldl_cons, ih, List.length_cons, ← addr]
    rfl

/-- 256 bytes bring the address back. -/
theorem foldl_oamPut_page {bs : List Byte} (h : bs.length = 256) (p : Ppu) :
    bs.foldl Ppu.oamPut p = { p with oam := (bs.foldl Ppu.oamPut p).oam } := by
  have addr : p.oamAddr + BitVec.ofNat 8 256 = p.oamAddr := BitVec.add_zero _
  conv_lhs => rw [foldl_oamPut_eq, h, addr]

theorem wf_foldl_oamPut (bs : List Byte) {p : Ppu} (h : p.oam.wf = true) :
    (bs.foldl Ppu.oamPut p).oam.wf = true := by
  induction bs generalizing p with
  | nil => exact h
  | cons b bs ih => exact ih (Memory.wf_set h _ b)

/-- At most 256 bytes do not overwrite one another: each lies at its distance from the OAM address,
modulo 256. The induction takes off the last byte, the only one put at its place. -/
theorem get_foldl_oamPut {bs : List Byte} (hlen : bs.length ≤ 256) {p : Ppu}
    (h : p.oam.wf = true) {i : Nat} (hi : i < bs.length) :
    (bs.foldl Ppu.oamPut p).oam.get ((p.oamAddr.toNat + i) % 256) = bs.getD i 0 := by
  induction bs using List.reverseRecOn with
  | nil => contradiction
  | append_singleton bs b ih =>
    rw [List.length_append, List.length_singleton] at hlen hi
    have place : (bs.foldl Ppu.oamPut p).oamAddr.toNat = (p.oamAddr.toNat + bs.length) % 256 := by
      rw [foldl_oamPut_eq]
      simp
    rw [List.foldl_append, List.foldl_cons, List.foldl_nil, Ppu.oamPut, place,
      Memory.get_set (wf_foldl_oamPut bs h)]
    by_cases hlast : i = bs.length
    · rw [if_pos (by rw [hlast]), hlast, List.getD_append_right _ _ _ _ le_rfl, Nat.sub_self]
      rfl
    · rw [if_neg (by omega), ih (by omega) (by omega), List.getD_append _ _ _ _ (by omega)]

/-! ### Reads outside the registers of the video unit (R84) -/

theorem readDest_ne_ppuReg {a : Word} (h : a.toNat < 0x2000 ∨ 0x4000 ≤ a.toNat) (n : BitVec 3) :
    readDest a ≠ .ppuReg n := by
  unfold readDest
  split
  · simp
  · rw [if_neg (by omega)]
    repeat' split
    all_goals simp

theorem peek_withPpu {a : Word} (h : ∀ n, readDest a ≠ .ppuReg n) (p : Ppu) (s : State) :
    peek a { s with ppu := p } = peek a s := by
  unfold peek
  split
  case h_2 n hn => exact absurd hn (h n)
  all_goals rfl

theorem afterRd_withPpu {a : Word} (h : ∀ n, readDest a ≠ .ppuReg n) (p : Ppu) (s : State) :
    afterRd a { s with ppu := p } = { afterRd a s with ppu := p } := by
  rw [afterRd, afterRd, peek_withPpu h]
  unfold readEffect
  split
  case h_1 n hn => exact absurd hn (h n)
  all_goals rfl

theorem afterRd_ppu_of_ne_ppuReg {a : Word} (h : ∀ n, readDest a ≠ .ppuReg n) (s : State) :
    (afterRd a s).ppu = s.ppu := by
  have same : afterRd a s = { afterRd a s with ppu := s.ppu } := afterRd_withPpu h s.ppu s
  rw [same]

@[simp] theorem readBytes_length (n : Nat) (a : Word) (s : State) :
    (readBytes n a s).1.length = n := by
  induction n generalizing a s with
  | zero => rfl
  | succ n ih => rw [readBytes, List.length_cons, ih]

/-! ### The pages of the CPU space (R710) -/

/-- Address `k` of a page. -/
def pageAddr (page : Byte) (k : Nat) : Word := BitVec.ofNat 16 (page.toNat * 256 + k)

theorem pageAddr_zero (page : Byte) : pageAddr page 0 = BitVec.ofNat 16 (page.toNat * 256) := by
  rw [pageAddr, Nat.add_zero]

theorem pageAddr_add_one (page : Byte) (k : Nat) : pageAddr page k + 1 = pageAddr page (k + 1) := by
  rw [pageAddr, pageAddr, ← Nat.add_assoc, BitVec.ofNat_add _ 1]
  rfl

/-- The source of the move that leaves `n` to do. -/
theorem word_eq_pageAddr (page : Byte) {k n : Nat} (h : k + (n + 1) = 256) :
    word page (BitVec.ofNat 8 (255 - n)) = pageAddr page k := by
  rw [word_eq_ofNat, pageAddr, BitVec.toNat_ofNat]
  congr 1
  omega

/-- The pages that hold no register of the video unit. -/
def videoFree (page : Byte) : Prop := page.toNat < 0x20 ∨ 0x40 ≤ page.toNat

theorem readDest_pageAddr_ne_ppuReg {page : Byte} (h : videoFree page) {k : Nat} (hk : k < 256)
    (n : BitVec 3) : readDest (pageAddr page k) ≠ .ppuReg n := by
  have hpage := page.isLt
  have addr : (pageAddr page k).toNat = page.toNat * 256 + k := by
    rw [pageAddr, BitVec.toNat_ofNat]
    omega
  unfold videoFree at h
  exact readDest_ne_ppuReg (by omega) n

/-- Reads from such a page leave the video unit as it is. -/
theorem readBytes_pageAddr_ppu {page : Byte} (h : videoFree page) {k n : Nat} (hn : k + n = 256)
    (s : State) : (readBytes n (pageAddr page k) s).2.ppu = s.ppu := by
  induction n generalizing k s with
  | zero => rfl
  | succ n ih =>
    have hk : k < 256 := by omega
    have hn' : k + 1 + n = 256 := by omega
    have kept : (afterRd (pageAddr page k) s).ppu = s.ppu :=
      afterRd_ppu_of_ne_ppuReg (readDest_pageAddr_ne_ppuReg h hk) s
    rw [readBytes, pageAddr_add_one, ← kept]
    exact ih hn' _

/-! ### The copy (R710 to R712) -/

/-- From such a page, what is put into object memory does not change what is read next: the copy is the
reads, then the puts of the bytes read. -/
theorem oamCopy_withPpu {page : Byte} (h : videoFree page) {k n : Nat} (hn : k + n = 256) (p : Ppu)
    (s : State) : oamCopy page n { s with ppu := p } =
      { (readBytes n (pageAddr page k) s).2 with
        ppu := (readBytes n (pageAddr page k) s).1.foldl Ppu.oamPut p } := by
  induction n generalizing k p s with
  | zero => rfl
  | succ n ih =>
    have hk : k < 256 := by omega
    have hn' : k + 1 + n = 256 := by omega
    have outside := readDest_pageAddr_ne_ppuReg h hk
    rw [oamCopy, word_eq_pageAddr page hn, peek_withPpu outside, afterRd_withPpu outside, readBytes,
      pageAddr_add_one]
    exact ih hn' (p.oamPut (peek (pageAddr page k) s)) (afterRd (pageAddr page k) s)

theorem oamCopy_eq {page : Byte} (h : videoFree page) {k n : Nat} (hn : k + n = 256) (s : State) :
    oamCopy page n s = { (readBytes n (pageAddr page k) s).2 with
      ppu := (readBytes n (pageAddr page k) s).1.foldl Ppu.oamPut s.ppu } :=
  oamCopy_withPpu h hn s.ppu s

/-- From any page the OAM address moves on by one with each byte. -/
theorem oamCopy_oamAddr (page : Byte) (n : Nat) (s : State) :
    (oamCopy page n s).ppu.oamAddr = s.ppu.oamAddr + BitVec.ofNat 8 n := by
  induction n generalizing s with
  | zero => simp [oamCopy]
  | succ n ih =>
    rw [oamCopy, ih, Ppu.oamPut, afterRd_ppu_oamAddr, BitVec.ofNat_add, BitVec.add_assoc,
      BitVec.add_comm (BitVec.ofNat 8 n)]
    rfl

theorem oamCopy_stall (page : Byte) (n : Nat) (s : State) :
    (oamCopy page n s).stall = s.stall :=
  oamCopy_keeps_of (P := fun t => t.stall = s.stall) (fun a hs => (afterRd_stall a _).trans hs)
    (fun _ => id) page n rfl

/-- A write of 0x4014 is the copy of all 256 bytes, and its cost. -/
theorem wr_oamDma (d : Byte) (s : State) :
    wr 0x4014 d s = { oamCopy d 256 s with stall := s.stall + (513 + s.cyc % 2) } := by
  rw [← config_oamDmaCycles, ← oamCopy_stall d 256 s]
  rfl

/-- Settles O54: 256 moves bring the OAM address back, and a page outside the video registers is read as
if nothing were put meanwhile. -/
theorem objectMemoryCopy : Obligations.ObjectMemoryCopy := by
  intro s d t
  have copied : t = { oamCopy d 256 s with stall := s.stall + (513 + s.cyc % 2) } := wr_oamDma d s
  have addr : t.ppu.oamAddr = s.ppu.oamAddr := by
    rw [copied]
    exact (oamCopy_oamAddr d 256 s).trans (BitVec.add_zero _)
  have cost : t.stall = s.stall + 513 + s.cyc % 2 := by
    rw [copied]
    exact (Nat.add_assoc ..).symm
  refine ⟨addr, cost, fun hd hwf => ?_⟩
  intro r
  have page : r = readBytes 256 (pageAddr d 0) s := by rw [pageAddr_zero]
  have whole := oamCopy_eq hd (Nat.zero_add 256) s
  have length := readBytes_length 256 (pageAddr d 0) s
  have reads := readBytes_pageAddr_ppu hd (Nat.zero_add 256) s
  rw [← page] at whole length reads
  clear_value r
  have ppu : t.ppu = r.1.foldl Ppu.oamPut s.ppu := by rw [copied, whole]
  refine ⟨fun i hi => ?_, ?_⟩
  · rw [ppu]
    exact get_foldl_oamPut length.le hwf (length ▸ hi)
  · have rest : t.ppu = { r.2.ppu with oam := t.ppu.oam } := by
      rw [reads, ppu]
      exact foldl_oamPut_page length s.ppu
    rw [← rest, ppu, cost, copied, whole, ← Nat.add_assoc]

/-! ### The snapshot (R727, R728) -/

/-- No run changes what identifies the cartridge. -/
theorem cartridgeIdentity_reaches {n : Nat} {s t : State} (h : reaches n s t) :
    cartridgeIdentity t = cartridgeIdentity s := by
  induction n generalizing s with
  | zero => rw [reaches] at h; rw [h]
  | succ n ih =>
    obtain ⟨u, hstep, hrun⟩ := h
    exact (ih hrun).trans (cartridgeIdentity_step hstep)

theorem restore_of_match {r : Snapshot} {s : State} (hv : r.version = snapshotVersion)
    (hc : cartridgeIdentity r.state = cartridgeIdentity s) :
    restore r s = .ok { r.state with host := s.host } := by
  rw [restore, if_neg (not_not_intro hv), if_neg (not_not_intro hc)]

theorem restore_of_mismatch {r : Snapshot} {s : State} (h : r.version ≠ snapshotVersion ∨
    cartridgeIdentity r.state ≠ cartridgeIdentity s) : ∃ e, restore r s = .error e := by
  unfold restore
  split
  · exact ⟨_, rfl⟩
  · next hv => exact ⟨_, if_pos (h.resolve_left hv)⟩

/-- Settles O57: a run leaves the cartridge that the snapshot is of. -/
theorem snapshotRestores : Obligations.SnapshotRestores :=
  ⟨fun _ _ _ h => restore_of_match rfl (cartridgeIdentity_reaches h).symm,
    fun _ _ => restore_of_mismatch⟩

end Sys2Proof.Machine
end
